-- ==== Sys2Proof/Word.lean ====
section
/-! DEFINITION. The two word types of the block: 8-bit data, 16-bit addresses and pairs (00_scope.md R10). -/

namespace Sys2Proof

/-- A `u8` (R13): register contents, bus data, immediate bytes. -/
abbrev Byte := BitVec 8

/-- A `u16` (R13): register pairs, SP, PC, bus addresses. -/
abbrev Word := BitVec 16

end Sys2Proof
end

