-- ==== Sys2Proof/Machine/Bits.lean ====
section
/-! DEFINITION. Bit fields, byte order and sign extension (00_scope.md R12 to R14), and the list of unknown
opcodes (30_encoding.md R91). -/

namespace Sys2Proof.Machine

/-- `hi8(v)` (R13). -/
def hi8 (v : Word) : Byte := v.extractLsb' 8 8

/-- `lo8(v)` (R13). -/
def lo8 (v : Word) : Byte := v.extractLsb' 0 8

/-- `hi:lo` (R13). -/
def join (hi lo : Byte) : Word := hi ++ lo

/-- `sext_16(v)` (R14): two's-complement sign extension. -/
def sext16 (v : Byte) : Word := v.signExtend 16

/-- `zext_16(v)` (R14). -/
def zext16 (v : Byte) : Word := v.setWidth 16

/-- `v[lo+len-1:lo]` as an unsigned number (R12). -/
def field (v : Byte) (lo len : Nat) : Nat := (v.toNat / 2 ^ lo) % 2 ^ len

/-- The eleven primary bytes with no table entry (R91). -/
def unknownOpcodes : List Byte :=
  [0xD3, 0xDB, 0xDD, 0xE3, 0xE4, 0xEB, 0xEC, 0xED, 0xF4, 0xFC, 0xFD]

end Sys2Proof.Machine
end

