-- ==== Sys2Proof/Config.lean ====
section
/-! DEFINITION. What the host chooses at construction (00_scope.md R11): the initial register state, and the bus. The
spec leaves no result of an instruction undefined; the one free value here is what a substituted bus answers. -/

namespace Sys2Proof.Machine

/-- One byte access as the bus sees it (20_memory.md R45, R68). -/
inductive BusAccess where
  | read (addr : Word) (v : Byte)
  | write (addr : Word) (v : Byte)
  deriving DecidableEq, Repr

end Sys2Proof.Machine

namespace Sys2Proof.Config

/-- What a substituted bus answers to a read of the address, once it has answered its script: a free value of the
accesses it has had, since the spec gives the contents of no bus but the MMU (00_scope.md R8, D1; log 28). -/
opaque busReply : List Machine.BusAccess → Word → Byte

/-- The initial register state handed to the block at construction (00_scope.md R7, R11; 70_reset_and_hazards.md
R235). The defaults of A, F, SP, PC and IME are the post-boot values of 10_state.md R44. The six bytes B to L are
the open parameter `initBCDEHL` (92_eei_decisions.md D2); their defaults are a DESIGN CHOICE (log 4, unsafe). -/
structure InitRegs where
  a : Byte := 0x01
  f : Byte := 0xB0
  b : Byte := 0x00
  c : Byte := 0x00
  d : Byte := 0x00
  e : Byte := 0x00
  h : Byte := 0x00
  l : Byte := 0x00
  sp : Word := 0xFFFE
  pc : Word := 0x0100
  ime : Bool := false
  deriving DecidableEq, Repr

/-- The post-boot register state (R44), with zeros for the open `initBCDEHL` (log 4). -/
def postBoot : InitRegs := {}

end Sys2Proof.Config
end

