-- ==== Sys2Proof/Machine/Memory.lean ====
section
/-! DEFINITION. The MMU (20_memory.md R45 to R59): the fixed partition of the address space, the bytes it holds as a
canonical list of cells, and its two operations. -/

namespace Sys2Proof.Machine

/-- The ten regions of R47. -/
inductive Region where
  | rom | vram | externalRam | workRam | echo | oam | unusable | io | hram | ie
  deriving DecidableEq, Repr

/-- The address decode of R47; the bounds are the table's, in its order. -/
def regionOf (a : Nat) : Region :=
  if a < 0x8000 then .rom
  else if a < 0xA000 then .vram
  else if a < 0xC000 then .externalRam
  else if a < 0xE000 then .workRam
  else if a < 0xFE00 then .echo
  else if a < 0xFEA0 then .oam
  else if a < 0xFF00 then .unusable
  else if a < 0xFF80 then .io
  else if a < 0xFFFF then .hram
  else .ie

/-- The regions whose reads return 0xFF whatever `mem` holds (R52, R54, R58). -/
def Region.readsFF : Region → Bool
  | .echo | .unusable => true
  | .rom | .vram | .externalRam | .workRam | .oam | .io | .hram | .ie => false

/-- The regions whose writes store; the others discard them (R48 to R57, R58). -/
def Region.stores : Region → Bool
  | .rom | .echo | .unusable => false
  | .vram | .externalRam | .workRam | .oam | .io | .hram | .ie => true

/-- The array `mem` of R58 as a list of (address, byte), addresses strictly rising, zero bytes not listed. -/
abbrev Memory := List Host.Cell

/-- What an address reads as that no cell lists: 0x00, since the MMU "is constructed zero-filled" (R59); 0xFF in
Echo and Unusable, which no cell may list (R52, R54). -/
def Memory.unlisted (a : Nat) : Byte := if (regionOf a).readsFF then 0xFF else 0x00

/-- The byte `mem[a]` (R58). -/
def Memory.get : Memory → Nat → Byte
  | [], _ => 0x00
  | (k, v) :: m, a => if k = a then v else Memory.get m a

/-- Take the cell of an address out of the list. -/
def Memory.erase : Memory → Nat → Memory
  | [], _ => []
  | (k, v) :: m, a => if k = a then Memory.erase m a else (k, v) :: Memory.erase m a

/-- Put a cell into the list at its place, over a cell of the same address. -/
def Memory.insert : Memory → Nat → Byte → Memory
  | [], a, v => [(a, v)]
  | (k, w) :: m, a, v =>
    if a < k then (a, v) :: (k, w) :: m
    else if a = k then (a, v) :: m
    else (k, w) :: Memory.insert m a v

/-- `mem[a] <- v` (R58) on the canonical list: a zero byte is not listed. -/
def Memory.put (m : Memory) (a : Nat) (v : Byte) : Memory :=
  if v = 0x00 then m.erase a else m.insert a v

/-- The bus's `read(addr)` (R58). -/
def Memory.read (m : Memory) (a : Word) : Byte :=
  if (regionOf a.toNat).readsFF then 0xFF else m.get a.toNat

/-- The bus's `write(addr, v)` (R58). -/
def Memory.write (m : Memory) (a : Word) (v : Byte) : Memory :=
  if (regionOf a.toNat).stores then m.put a.toNat v else m

/-- The ROM part of `mem` after construction (R59): the image's first 32768 bytes at their addresses, nothing else.
`at_` is the address of the list's first byte. -/
def Memory.loadRom : Nat → List Byte → Memory
  | _, [] => []
  | at_, v :: img =>
    if at_ < 0x8000 then
      if v = 0x00 then Memory.loadRom (at_ + 1) img else (at_, v) :: Memory.loadRom (at_ + 1) img
    else []

/-- A cell that may be listed: an address of the space, outside Echo and Unusable, and not the unlisted byte. -/
def Memory.cellOk (x : Host.Cell) : Bool :=
  decide (x.1 < 0x10000) && !(regionOf x.1).readsFF && decide (x.2 ≠ Memory.unlisted x.1)

/-- Every address of the list is above `a`. -/
def Memory.above (a : Nat) : Memory → Bool
  | [] => true
  | (k, _) :: m => decide (a < k) && Memory.above a m

/-- The canonical form: addresses strictly rising, every cell one that may be listed. -/
def Memory.wf : Memory → Bool
  | [] => true
  | x :: m => Memory.cellOk x && Memory.above x.1 m && Memory.wf m

end Sys2Proof.Machine
end

