-- ==== Sys2Proof/Machine/State.lean ====
section
/-! DEFINITION. The state of the block (10_state.md R20, R39; 20_memory.md R58), the reasons a step can stop, and
construction (70_reset_and_hazards.md R235). -/

namespace Sys2Proof.Machine

/-- The bus that the block is constructed with (00_scope.md R7, R8, R11; D1), as plain data (log 28). -/
inductive Backend where
  /-- the MMU (20_memory.md R58), the default; its bytes are `State.mem` -/
  | mmu
  /-- any other bus: the bytes it will answer to the next reads, in order, and every access it has had, oldest first;
  once the bytes are used up its answers are the free value `Config.busReply` -/
  | substituted (replies : List Byte) (past : List BusAccess)
  deriving DecidableEq, Repr

/-- The state of the CPU (R20) and of the MMU (R58), the bus it is connected to (40_dispatch.md R113), the
step's accumulator (R39) and what a step gives to the outside: its cycle count (R104) and its bus accesses (R68). -/
structure State where
  /-- the accumulator (R21) -/
  a : Byte
  /-- the flag register, Z N H C in bits 7..4 (R23) -/
  f : Byte
  /-- general registers (R22) -/
  b : Byte
  c : Byte
  d : Byte
  e : Byte
  h : Byte
  l : Byte
  /-- the stack pointer (R35) -/
  sp : Word
  /-- the address of the next instruction-stream byte (R36) -/
  pc : Word
  /-- the master interrupt-enable latch (R38) -/
  ime : Bool
  /-- the MMU's bytes (R58); with a substituted bus, no access reaches them -/
  mem : Memory
  /-- the bus (00_scope.md R8), with the state of a substituted one (40_dispatch.md R113) -/
  backend : Backend
  /-- the "extra cycles" accumulator of the step under way (R39); 0 between steps (log 3) -/
  extra : Nat
  /-- the count of T-states the last step returned (R100, R104); DESIGN CHOICE, log 1 -/
  cycles : Nat
  /-- the bus accesses of the last step, oldest first (R68); DESIGN CHOICE, log 2 -/
  bus : List BusAccess
  deriving DecidableEq, Repr

/-- The reasons a step stops for good (60_exceptions.md R218: there is one). -/
inductive Fault where
  /-- `UnknownOpcode(byte, addr)` (R213): raised by the eleven unknown primary bytes, with the byte and the PC it was
  fetched at. The spec's own terminal outcome (R215), so it is safe: it carries no state, and no step follows it. -/
  | unknownOpcode (byte : Byte) (addr : Word)
  deriving DecidableEq, Repr

/-- The reasons the model gives an instruction no meaning. -/
inductive Refusal where
  /-- Raised by an arm of `exec` whose instruction has no meaning yet; no arm raises it now. Safe: the machine stops. -/
  | notModelled (mnemonic : String)
  deriving DecidableEq, Repr

/-- What a meaning answers. -/
abbrev Result := Host.Outcome State Fault Refusal

/-- Construction, the block's only reset (R235), with a bus, the MMU unless the host hands over another (00_scope.md R7,
R11): the MMU zero-filled and the cartridge image copied into ROM (20_memory.md R59), the registers as the host hands them
over. Bits 3..0 of F "are always 0" (R23), so a host's F is stored without them (DEDUCED, log 7). -/
def State.construct (romImage : List Byte) (init : Config.InitRegs) (bus : Backend := .mmu) : State where
  a := init.a
  f := init.f &&& 0xF0
  b := init.b
  c := init.c
  d := init.d
  e := init.e
  h := init.h
  l := init.l
  sp := init.sp
  pc := init.pc
  ime := init.ime
  mem :=
    match bus with
    | .mmu => Memory.loadRom 0 romImage
    | .substituted _ _ => []
  backend := bus
  extra := 0
  cycles := 0
  bus := []

/-- The machine right after construction with the MMU, the post-boot registers (R44) and no cartridge image: the
values of B to L are log 4's. -/
def State.reset : State := State.construct [] Config.postBoot

end Sys2Proof.Machine
end

