-- ==== Sys2Proof/Machine/Ops.lean ====
section
/-! DEFINITION. The operations every meaning is built from: bus accesses (20_memory.md R45), instruction fetch
(40_dispatch.md R101, R102), the stack (R61, R62), cycle accounting (R100), and the one exception (60_exceptions.md
R213). -/

namespace Sys2Proof.Machine

/-- The bus's `read(addr)` (00_scope.md R8): the MMU's byte (R58), or a substituted bus's next one (log 28). -/
def Backend.reply (mem : Memory) (a : Word) (bus : Backend) : Byte :=
  match bus with
  | .mmu => mem.read a
  | .substituted [] past => Config.busReply past a
  | .substituted (v :: _) _ => v

/-- The MMU's bytes after the bus's `write(addr, v)` (00_scope.md R8): a substituted bus is not the MMU. -/
def Backend.store (a : Word) (v : Byte) (mem : Memory) (bus : Backend) : Memory :=
  match bus with
  | .mmu => mem.write a v
  | .substituted _ _ => mem

/-- The bus after an access (R70): a substituted one has had it, and a read used up the byte it answered. -/
def Backend.after (x : BusAccess) (bus : Backend) : Backend :=
  match bus with
  | .mmu => .mmu
  | .substituted replies past =>
    .substituted (match x with | .read _ _ => replies.tail | .write _ _ => replies) (past ++ [x])

/-- The byte the MMU's read of the address gives (R58); the host's view of memory, without an access. -/
def State.peek (s : State) (a : Word) : Byte := s.mem.read a

/-- The byte the bus answers to a read of the address now. -/
def State.reply (s : State) (a : Word) : Byte := s.backend.reply s.mem a

/-- An access happens: the step's record has it (R68), and so has the bus. -/
def State.noteAccess (x : BusAccess) (s : State) : State :=
  { s with backend := s.backend.after x, bus := s.bus ++ [x] }

/-- `MemRead(addr, 1)` (R45): the byte, and the state after the access. -/
def State.memRead (a : Word) (s : State) : Byte × State := (s.reply a, s.noteAccess (.read a (s.reply a)))

/-- `MemWrite(addr, 1, v)` (R45). -/
def State.memWrite (a : Word) (v : Byte) (s : State) : State :=
  { s with
    mem := s.backend.store a v s.mem
    backend := s.backend.after (.write a v)
    bus := s.bus ++ [.write a v] }

/-- `PC <- target` (00_scope.md R15). -/
def State.setPC (v : Word) (s : State) : State := { s with pc := v }

/-- `SP <- v`. -/
def State.setSP (v : Word) (s : State) : State := { s with sp := v }

/-- `IME <- v` (10_state.md R38). -/
def State.setIME (v : Bool) (s : State) : State := { s with ime := v }

/-- `Fetch8()` (R101): read at PC, PC advanced modulo 65536. -/
def State.fetch8 (s : State) : Byte × State :=
  let r := s.memRead s.pc
  (r.1, r.2.setPC (s.pc + 1))

/-- `Push16(v)` (R61): high byte at SP - 1, then low byte at SP - 2, SP decremented before each. -/
def State.push16 (v : Word) (s : State) : State :=
  let s1 := (s.setSP (s.sp - 1)).memWrite (s.sp - 1) (hi8 v)
  (s1.setSP (s1.sp - 1)).memWrite (s1.sp - 1) (lo8 v)

/-- `Pop16()` (R62): low byte at SP, then high byte at SP + 1, SP incremented after each. -/
def State.pop16 (s : State) : Word × State :=
  let lo := s.memRead s.sp
  let s1 := lo.2.setSP (s.sp + 1)
  let hi := s1.memRead s1.sp
  (join hi.1 lo.1, hi.2.setSP (s1.sp + 1))

/-- Line 1 of `step()` (R100): the accumulator is cleared; the record of bus accesses starts anew with it (log 2). -/
def State.beginStep (s : State) : State := { s with extra := 0, bus := [] }

/-- `extra <- extra + k` (00_scope.md R15). -/
def State.addExtra (k : Nat) (s : State) : State := { s with extra := s.extra + k }

/-- The last line of `step()` (R100): return `base + extra`. The accumulator "does not survive a step" (R39, log 3). -/
def State.retire (base : Nat) (s : State) : State := { s with cycles := base + s.extra, extra := 0 }

/-- `raise UnknownOpcode(byte, addr)` (R213), the block's only exception: no state is saved and no handler is entered
(R220). It is raised after the opcode fetch, so the opcode's address is PC - 1 (`pcOp` of R100). -/
def raiseUnknownOpcode (byte : Byte) (s : State) : Result := .fault (.unknownOpcode byte (s.pc - 1))

end Sys2Proof.Machine
end

