-- ==== Sys2Proof/Syntax.lean ====
section
/-! DEFINITION. The syntax: operand names (10_state.md R31 to R33, 30_encoding.md R81, R82, R84) and `Instr`, one
constructor for each mnemonic of spec/opcode_table.json (30_encoding.md R96): the rows with operands, then the rows
without, each in the table's order (Lean's runtime allows no operand on a constructor numbered above 243). -/

namespace Sys2Proof

/-- The r8 operands in index order; index 6 is the byte at HL (R31). -/
inductive R8 where
  | b | c | d | e | h | l | atHL | a
  deriving DecidableEq, Repr

/-- The r16 operands of arithmetic and LD r16,nn in index order (R32). -/
inductive R16 where
  | bc | de | hl | sp
  deriving DecidableEq, Repr

/-- The r16 operands of PUSH and POP in index order (R33). -/
inductive R16s where
  | bc | de | hl | af
  deriving DecidableEq, Repr

/-- The condition codes in index order (R81). -/
inductive Cond where
  | nz | z | nc | c
  deriving DecidableEq, Repr

/-- The 8-bit ALU operations in index order (R82). -/
inductive AluOp where
  | add | adc | sub | sbc | and | xor | or | cp
  deriving DecidableEq, Repr

/-- The rotate and shift types in index order (R84). -/
inductive ShiftOp where
  | rlc | rrc | rl | rr | sla | sra | swap | srl
  deriving DecidableEq, Repr

/-- The instructions. `n` and `nn` are the immediates (R85, R86), `x` the byte STOP ignores (R209), `cb` the byte after
the prefix (R94), `op` an unknown opcode byte (R91), `k` a bit number and `r` an r8 operand of a CB form (R84). A name
spells its row: `atHL` stands for `(HL)`, `atNn` for `(nn)`, and so on. -/
inductive Instr where
  | ld_bc_nn (nn : Word)
  | ld_b_n (n : Byte)
  | ld_atNn_sp (nn : Word)
  | ld_c_n (n : Byte)
  | stop (x : Byte)
  | ld_de_nn (nn : Word)
  | ld_d_n (n : Byte)
  | jr_n (n : Byte)
  | ld_e_n (n : Byte)
  | jr_nz_n (n : Byte)
  | ld_hl_nn (nn : Word)
  | ld_h_n (n : Byte)
  | jr_z_n (n : Byte)
  | ld_l_n (n : Byte)
  | jr_nc_n (n : Byte)
  | ld_sp_nn (nn : Word)
  | ld_atHL_n (n : Byte)
  | jr_c_n (n : Byte)
  | ld_a_n (n : Byte)
  | jp_nz_nn (nn : Word)
  | jp_nn (nn : Word)
  | call_nz_nn (nn : Word)
  | add_a_n (n : Byte)
  | jp_z_nn (nn : Word)
  | cbPrefix (cb : Byte)
  | call_z_nn (nn : Word)
  | call_nn (nn : Word)
  | adc_a_n (n : Byte)
  | jp_nc_nn (nn : Word)
  | unknown (op : Byte)
  | call_nc_nn (nn : Word)
  | sub_n (n : Byte)
  | jp_c_nn (nn : Word)
  | call_c_nn (nn : Word)
  | sbc_a_n (n : Byte)
  | ldh_atN_a (n : Byte)
  | and_n (n : Byte)
  | add_sp_n (n : Byte)
  | ld_atNn_a (nn : Word)
  | xor_n (n : Byte)
  | ldh_a_atN (n : Byte)
  | or_n (n : Byte)
  | ld_hl_sp_n (n : Byte)
  | ld_a_atNn (nn : Word)
  | cp_n (n : Byte)
  | rlc (r : R8)
  | rrc (r : R8)
  | rl (r : R8)
  | rr (r : R8)
  | sla (r : R8)
  | sra (r : R8)
  | swap (r : R8)
  | srl (r : R8)
  | bit (k : Fin 8) (r : R8)
  | res (k : Fin 8) (r : R8)
  | set (k : Fin 8) (r : R8)
  | nop
  | ld_atBC_a
  | inc_bc
  | inc_b
  | dec_b
  | rlca
  | add_hl_bc
  | ld_a_atBC
  | dec_bc
  | inc_c
  | dec_c
  | rrca
  | ld_atDE_a
  | inc_de
  | inc_d
  | dec_d
  | rla
  | add_hl_de
  | ld_a_atDE
  | dec_de
  | inc_e
  | dec_e
  | rra
  | ldi_atHL_a
  | inc_hl
  | inc_h
  | dec_h
  | daa
  | add_hl_hl
  | ldi_a_atHL
  | dec_hl
  | inc_l
  | dec_l
  | cpl
  | ldd_atHL_a
  | inc_sp
  | inc_atHL
  | dec_atHL
  | scf
  | add_hl_sp
  | ldd_a_atHL
  | dec_sp
  | inc_a
  | dec_a
  | ccf
  | ld_b_b
  | ld_b_c
  | ld_b_d
  | ld_b_e
  | ld_b_h
  | ld_b_l
  | ld_b_atHL
  | ld_b_a
  | ld_c_b
  | ld_c_c
  | ld_c_d
  | ld_c_e
  | ld_c_h
  | ld_c_l
  | ld_c_atHL
  | ld_c_a
  | ld_d_b
  | ld_d_c
  | ld_d_d
  | ld_d_e
  | ld_d_h
  | ld_d_l
  | ld_d_atHL
  | ld_d_a
  | ld_e_b
  | ld_e_c
  | ld_e_d
  | ld_e_e
  | ld_e_h
  | ld_e_l
  | ld_e_atHL
  | ld_e_a
  | ld_h_b
  | ld_h_c
  | ld_h_d
  | ld_h_e
  | ld_h_h
  | ld_h_l
  | ld_h_atHL
  | ld_h_a
  | ld_l_b
  | ld_l_c
  | ld_l_d
  | ld_l_e
  | ld_l_h
  | ld_l_l
  | ld_l_atHL
  | ld_l_a
  | ld_atHL_b
  | ld_atHL_c
  | ld_atHL_d
  | ld_atHL_e
  | ld_atHL_h
  | ld_atHL_l
  | halt
  | ld_atHL_a
  | ld_a_b
  | ld_a_c
  | ld_a_d
  | ld_a_e
  | ld_a_h
  | ld_a_l
  | ld_a_atHL
  | ld_a_a
  | add_a_b
  | add_a_c
  | add_a_d
  | add_a_e
  | add_a_h
  | add_a_l
  | add_a_atHL
  | add_a_a
  | adc_a_b
  | adc_a_c
  | adc_a_d
  | adc_a_e
  | adc_a_h
  | adc_a_l
  | adc_a_atHL
  | adc_a_a
  | sub_b
  | sub_c
  | sub_d
  | sub_e
  | sub_h
  | sub_l
  | sub_atHL
  | sub_a
  | sbc_a_b
  | sbc_a_c
  | sbc_a_d
  | sbc_a_e
  | sbc_a_h
  | sbc_a_l
  | sbc_a_atHL
  | sbc_a_a
  | and_b
  | and_c
  | and_d
  | and_e
  | and_h
  | and_l
  | and_atHL
  | and_a
  | xor_b
  | xor_c
  | xor_d
  | xor_e
  | xor_h
  | xor_l
  | xor_atHL
  | xor_a
  | or_b
  | or_c
  | or_d
  | or_e
  | or_h
  | or_l
  | or_atHL
  | or_a
  | cp_b
  | cp_c
  | cp_d
  | cp_e
  | cp_h
  | cp_l
  | cp_atHL
  | cp_a
  | ret_nz
  | pop_bc
  | push_bc
  | rst_00
  | ret_z
  | ret
  | rst_08
  | ret_nc
  | pop_de
  | push_de
  | rst_10
  | ret_c
  | reti
  | rst_18
  | pop_hl
  | ld_atC_a
  | push_hl
  | rst_20
  | jp_hl
  | rst_28
  | pop_af
  | ld_a_atC
  | di
  | push_af
  | rst_30
  | ld_sp_hl
  | ei
  | rst_38
  deriving DecidableEq, Repr

end Sys2Proof
end

