-- ==== Sys2Proof/Machine/Operands.lean ====
section
/-! DEFINITION. The operand forms: register pairs (10_state.md R29, R30), the indexed accessors (R31 to R33), condition
codes (30_encoding.md R81) and high-page addresses (R87). -/

namespace Sys2Proof.Machine

/-- `BC = B:C` (R29). -/
def State.bc (s : State) : Word := join s.b s.c

/-- `DE = D:E` (R29). -/
def State.de (s : State) : Word := join s.d s.e

/-- `HL = H:L` (R29). -/
def State.hl (s : State) : Word := join s.h s.l

/-- `AF = A:F` (R30). -/
def State.af (s : State) : Word := join s.a s.f

/-- `A <- v`. -/
def State.setA (v : Byte) (s : State) : State := { s with a := v }

/-- `BC <- v` (R29). -/
def State.setBC (v : Word) (s : State) : State := { s with b := hi8 v, c := lo8 v }

/-- `DE <- v` (R29). -/
def State.setDE (v : Word) (s : State) : State := { s with d := hi8 v, e := lo8 v }

/-- `HL <- v` (R29). -/
def State.setHL (v : Word) (s : State) : State := { s with h := hi8 v, l := lo8 v }

/-- `AF <- v` (R30): the low nibble of F is masked to zero. -/
def State.setAF (v : Word) (s : State) : State := { s with a := hi8 v, f := lo8 v &&& 0xF0 }

/-- `ReadR8(i)` (R31): index 6 is one bus read at HL, any other index a register. -/
def State.readR8 (r : R8) (s : State) : Byte × State :=
  match r with
  | .b => (s.b, s)
  | .c => (s.c, s)
  | .d => (s.d, s)
  | .e => (s.e, s)
  | .h => (s.h, s)
  | .l => (s.l, s)
  | .atHL => s.memRead s.hl
  | .a => (s.a, s)

/-- `WriteR8(i, v)` (R31): index 6 is one bus write at HL. -/
def State.writeR8 (r : R8) (v : Byte) (s : State) : State :=
  match r with
  | .b => { s with b := v }
  | .c => { s with c := v }
  | .d => { s with d := v }
  | .e => { s with e := v }
  | .h => { s with h := v }
  | .l => { s with l := v }
  | .atHL => s.memWrite s.hl v
  | .a => { s with a := v }

/-- `ReadR16(i)` (R32). -/
def State.readR16 (p : R16) (s : State) : Word :=
  match p with
  | .bc => s.bc
  | .de => s.de
  | .hl => s.hl
  | .sp => s.sp

/-- `WriteR16(i, v)` (R32). -/
def State.writeR16 (p : R16) (v : Word) (s : State) : State :=
  match p with
  | .bc => s.setBC v
  | .de => s.setDE v
  | .hl => s.setHL v
  | .sp => s.setSP v

/-- `ReadR16s(i)` (R33). -/
def State.readR16s (q : R16s) (s : State) : Word :=
  match q with
  | .bc => s.bc
  | .de => s.de
  | .hl => s.hl
  | .af => s.af

/-- `WriteR16s(i, v)` (R33): the AF write masks F (R30). -/
def State.writeR16s (q : R16s) (v : Word) (s : State) : State :=
  match q with
  | .bc => s.setBC v
  | .de => s.setDE v
  | .hl => s.setHL v
  | .af => s.setAF v

/-- The Z flag, F[7] (R23). -/
def State.zf (s : State) : Bool := s.f.getLsbD 7

/-- The N flag, F[6] (R23). -/
def State.nf (s : State) : Bool := s.f.getLsbD 6

/-- The H flag, F[5] (R23). -/
def State.hf (s : State) : Bool := s.f.getLsbD 5

/-- The C flag, F[4] (R23). -/
def State.cf (s : State) : Bool := s.f.getLsbD 4

/-- `cond(cc)` (30_encoding.md R81). -/
def State.cond (cc : Cond) (s : State) : Bool :=
  match cc with
  | .nz => !s.zf
  | .z => s.zf
  | .nc => !s.cf
  | .c => s.cf

/-- The high-page address 0xFF00 + n (30_encoding.md R87). -/
def highPage (n : Byte) : Word := 0xFF00 + zext16 n

/-- The cost of an r8 operand that is a register, or of one that is the byte at HL (40_dispatch.md R105, R106). -/
def costR8 (r : R8) (reg atHL : Nat) : Nat := if r = .atHL then atHL else reg

end Sys2Proof.Machine
end

