-- ==== Sys2Proof/Machine/Flags.lean ====
section
/-! DEFINITION. The writer of F (10_state.md R27) and every result and flag computation: the 8-bit ALU (42_alu.md R140),
INC and DEC (R157, R158), the 16-bit sums (R161, R162), DAA (R163), and the shift unit (43_rotate_shift_bit.md R171).
Sums and differences are computed exactly and narrowed at the end (00_scope.md R13). -/

namespace Sys2Proof.Machine

/-- The four flags an operation computes. -/
structure Flags where
  z : Bool
  n : Bool
  h : Bool
  c : Bool
  deriving DecidableEq, Repr

/-- `(z << 7) | (n << 6) | (h << 5) | (c << 4)` (R27). -/
def flagByte (z n h c : Bool) : Byte :=
  (if z then 0x80 else 0) ||| (if n then 0x40 else 0) ||| (if h then 0x20 else 0) ||| (if c then 0x10 else 0)

/-- `SetFlags(z, n, h, c)` (R27). -/
def State.setFlags (z n h c : Bool) (s : State) : State := { s with f := flagByte z n h c }

/-- The low nibble `v & 0xF`. -/
def nib (v : Byte) : Nat := v.toNat % 16

/-- ADD and ADC (R140, k = 0 and 1): `a + b + cin`. -/
def add8 (a b : Byte) (cin : Nat) : Byte × Flags :=
  let sum := a.toNat + b.toNat + cin
  let r := BitVec.ofNat 8 sum
  (r, { z := r == 0, n := false, h := decide (nib a + nib b + cin > 0xF), c := decide (sum > 0xFF) })

/-- SUB, SBC and CP (R140, k = 2, 3 and 7): `a - b - cin`, with borrows for H and C. -/
def sub8 (a b : Byte) (cin : Nat) : Byte × Flags :=
  let diff : Int := (a.toNat : Int) - b.toNat - cin
  let r := BitVec.ofInt 8 diff
  (r, { z := r == 0, n := true, h := decide ((nib a : Int) - nib b - cin < 0), c := decide (diff < 0) })

/-- AND, XOR and OR (R140, k = 4, 5 and 6): Z from the result, N and C cleared, H as the table gives it. -/
def logic8 (r : Byte) (h : Bool) : Byte × Flags := (r, { z := r == 0, n := false, h := h, c := false })

/-- The ALU table of R140: the result column and the flag columns for `a = A`, operand `b`, carry `cin`. For CP the
result is A itself (the difference is discarded). -/
def alu (k : AluOp) (a b : Byte) (cin : Bool) : Byte × Flags :=
  match k with
  | .add => add8 a b 0
  | .adc => add8 a b cin.toNat
  | .sub => sub8 a b 0
  | .sbc => sub8 a b cin.toNat
  | .and => logic8 (a &&& b) true
  | .xor => logic8 (a ^^^ b) false
  | .or => logic8 (a ||| b) false
  | .cp => (a, (sub8 a b 0).2)

/-- INC r (R157): the result, Z and H. -/
def inc8 (v : Byte) : Byte × Bool × Bool :=
  let r := v + 1
  (r, r == 0, nib v == 0xF)

/-- DEC r (R158): the result, Z and H. -/
def dec8 (v : Byte) : Byte × Bool × Bool :=
  let r := v - 1
  (r, r == 0, nib v == 0)

/-- ADD HL,rr (R161): the sum, H out of bit 11, C out of bit 15. -/
def add16 (x y : Word) : Word × Bool × Bool :=
  let sum := x.toNat + y.toNat
  (BitVec.ofNat 16 sum, decide (x.toNat % 0x1000 + y.toNat % 0x1000 > 0x0FFF), decide (sum > 0xFFFF))

/-- ADD SP,n and LD HL,SP+n (R134, R162): the sum with the sign-extended byte, H and C of the raw byte. -/
def addOffset (sp : Word) (n : Byte) : Word × Bool × Bool :=
  (sp + sext16 n, decide (sp.toNat % 0x10 + nib n > 0x0F), decide (sp.toNat % 0x100 + n.toNat > 0xFF))

/-- DAA (R163): the adjusted A and the new C, from the N, H and C before the instruction. -/
def daa (a : Byte) (n h c : Bool) : Byte × Bool :=
  if n then
    (a - ((if h then 0x06 else 0x00) + (if c then 0x60 else 0x00)), c)
  else
    let low := h || decide (nib a > 9)
    let high := c || decide (a.toNat > 0x99)
    (a + ((if low then 0x06 else 0x00) + (if high then 0x60 else 0x00)), high)

/-- A bit as a byte, 0 or 1. -/
def bitByte (b : Bool) : Byte := if b then 0x01 else 0x00

/-- `shift(t, v, cin)` (R171): the result and the carry-out. The bit-level definitions are the spec's completion of the
source (R170, D8); log 17. -/
def shift (t : ShiftOp) (v : Byte) (cin : Bool) : Byte × Bool :=
  match t with
  | .rlc => ((v <<< 1) ||| bitByte (v.getLsbD 7), v.getLsbD 7)
  | .rrc => ((v >>> 1) ||| (bitByte (v.getLsbD 0) <<< 7), v.getLsbD 0)
  | .rl => ((v <<< 1) ||| bitByte cin, v.getLsbD 7)
  | .rr => ((v >>> 1) ||| (bitByte cin <<< 7), v.getLsbD 0)
  | .sla => (v <<< 1, v.getLsbD 7)
  | .sra => ((v >>> 1) ||| (v &&& 0x80), v.getLsbD 0)
  | .swap => (((v &&& 0x0F) <<< 4) ||| (v >>> 4), false)
  | .srl => (v >>> 1, v.getLsbD 0)

end Sys2Proof.Machine
end

