-- ==== Sys2Proof/Machine/Alu.lean ====
section
/-! DEFINITION. 8-bit and 16-bit arithmetic and logic (42_alu.md). -/

namespace Sys2Proof.Machine

/-! ## Shared operations -/

/-- Apply an ALU operation to A and an operand byte, and write A and all four flags (R140). -/
def State.applyAlu (k : AluOp) (b : Byte) (s : State) : State :=
  let r := alu k s.a b s.cf
  (s.setA r.1).setFlags r.2.z r.2.n r.2.h r.2.c

/-- ALU A,r (R140): 4; 8 if src = 6. -/
def aluR8 (k : AluOp) (src : R8) (s : State) : Result :=
  let v := s.readR8 src
  .next ((v.2.applyAlu k v.1).retire (costR8 src 4 8))

/-- ALU A,n (R140): 8. -/
def aluImm (k : AluOp) (n : Byte) (s : State) : Result := .next ((s.applyAlu k n).retire 8)

/-- INC r (R157): C preserved; 4; 12 if r = 6. -/
def incR8 (dst : R8) (s : State) : Result :=
  let v := s.readR8 dst
  let r := inc8 v.1
  .next (((v.2.writeR8 dst r.1).setFlags r.2.1 false r.2.2 s.cf).retire (costR8 dst 4 12))

/-- DEC r (R158): C preserved; 4; 12 if r = 6. -/
def decR8 (dst : R8) (s : State) : Result :=
  let v := s.readR8 dst
  let r := dec8 v.1
  .next (((v.2.writeR8 dst r.1).setFlags r.2.1 true r.2.2 s.cf).retire (costR8 dst 4 12))

/-- INC rr (R159): no flag. -/
def incR16 (p : R16) (s : State) : Result := .next ((s.writeR16 p (s.readR16 p + 1)).retire 8)

/-- DEC rr (R160): no flag. -/
def decR16 (p : R16) (s : State) : Result := .next ((s.writeR16 p (s.readR16 p - 1)).retire 8)

/-- ADD HL,rr (R161): Z preserved. -/
def addToHL (p : R16) (s : State) : Result :=
  let r := add16 s.hl (s.readR16 p)
  .next (((s.setHL r.1).setFlags s.zf false r.2.1 r.2.2).retire 8)

/-- ADD SP,n (R162). -/
def addToSP (n : Byte) (s : State) : Result :=
  let r := addOffset s.sp n
  .next (((s.setSP r.1).setFlags false false r.2.1 r.2.2).retire 16)

/-- DAA (R163): N preserved, H cleared; 4 T-states (D7, log 16). -/
def adjustA (s : State) : Result :=
  let r := daa s.a s.nf s.hf s.cf
  .next (((s.setA r.1).setFlags (r.1 == 0) s.nf false r.2).retire 4)

/-- CPL (R164): Z and C preserved. -/
def complementA (s : State) : Result :=
  .next (((s.setA (~~~s.a)).setFlags s.zf true true s.cf).retire 4)

/-- SCF and CCF (R165, R166): Z preserved, N and H cleared, C as given. -/
def putCarry (c : Bool) (s : State) : Result := .next ((s.setFlags s.zf false false c).retire 4)

/-! ## One meaning for each row of the table -/

/-- INC BC (R159). -/
def exec_inc_bc (s : State) : Result := incR16 .bc s

/-- INC B (R157). -/
def exec_inc_b (s : State) : Result := incR8 .b s

/-- DEC B (R158). -/
def exec_dec_b (s : State) : Result := decR8 .b s

/-- ADD HL,BC (R161). -/
def exec_add_hl_bc (s : State) : Result := addToHL .bc s

/-- DEC BC (R160). -/
def exec_dec_bc (s : State) : Result := decR16 .bc s

/-- INC C (R157). -/
def exec_inc_c (s : State) : Result := incR8 .c s

/-- DEC C (R158). -/
def exec_dec_c (s : State) : Result := decR8 .c s

/-- INC DE (R159). -/
def exec_inc_de (s : State) : Result := incR16 .de s

/-- INC D (R157). -/
def exec_inc_d (s : State) : Result := incR8 .d s

/-- DEC D (R158). -/
def exec_dec_d (s : State) : Result := decR8 .d s

/-- ADD HL,DE (R161). -/
def exec_add_hl_de (s : State) : Result := addToHL .de s

/-- DEC DE (R160). -/
def exec_dec_de (s : State) : Result := decR16 .de s

/-- INC E (R157). -/
def exec_inc_e (s : State) : Result := incR8 .e s

/-- DEC E (R158). -/
def exec_dec_e (s : State) : Result := decR8 .e s

/-- INC HL (R159). -/
def exec_inc_hl (s : State) : Result := incR16 .hl s

/-- INC H (R157). -/
def exec_inc_h (s : State) : Result := incR8 .h s

/-- DEC H (R158). -/
def exec_dec_h (s : State) : Result := decR8 .h s

/-- DAA (R163). -/
def exec_daa (s : State) : Result := adjustA s

/-- ADD HL,HL (R161). -/
def exec_add_hl_hl (s : State) : Result := addToHL .hl s

/-- DEC HL (R160). -/
def exec_dec_hl (s : State) : Result := decR16 .hl s

/-- INC L (R157). -/
def exec_inc_l (s : State) : Result := incR8 .l s

/-- DEC L (R158). -/
def exec_dec_l (s : State) : Result := decR8 .l s

/-- CPL (R164). -/
def exec_cpl (s : State) : Result := complementA s

/-- INC SP (R159). -/
def exec_inc_sp (s : State) : Result := incR16 .sp s

/-- INC (HL) (R157). -/
def exec_inc_atHL (s : State) : Result := incR8 .atHL s

/-- DEC (HL) (R158). -/
def exec_dec_atHL (s : State) : Result := decR8 .atHL s

/-- SCF (R165). -/
def exec_scf (s : State) : Result := putCarry true s

/-- ADD HL,SP (R161). -/
def exec_add_hl_sp (s : State) : Result := addToHL .sp s

/-- DEC SP (R160). -/
def exec_dec_sp (s : State) : Result := decR16 .sp s

/-- INC A (R157). -/
def exec_inc_a (s : State) : Result := incR8 .a s

/-- DEC A (R158). -/
def exec_dec_a (s : State) : Result := decR8 .a s

/-- CCF (R166). -/
def exec_ccf (s : State) : Result := putCarry (!s.cf) s

/-- ADD A,B (R141). -/
def exec_add_a_b (s : State) : Result := aluR8 .add .b s

/-- ADD A,C (R141). -/
def exec_add_a_c (s : State) : Result := aluR8 .add .c s

/-- ADD A,D (R141). -/
def exec_add_a_d (s : State) : Result := aluR8 .add .d s

/-- ADD A,E (R141). -/
def exec_add_a_e (s : State) : Result := aluR8 .add .e s

/-- ADD A,H (R141). -/
def exec_add_a_h (s : State) : Result := aluR8 .add .h s

/-- ADD A,L (R141). -/
def exec_add_a_l (s : State) : Result := aluR8 .add .l s

/-- ADD A,(HL) (R141). -/
def exec_add_a_atHL (s : State) : Result := aluR8 .add .atHL s

/-- ADD A,A (R141). -/
def exec_add_a_a (s : State) : Result := aluR8 .add .a s

/-- ADC A,B (R143). -/
def exec_adc_a_b (s : State) : Result := aluR8 .adc .b s

/-- ADC A,C (R143). -/
def exec_adc_a_c (s : State) : Result := aluR8 .adc .c s

/-- ADC A,D (R143). -/
def exec_adc_a_d (s : State) : Result := aluR8 .adc .d s

/-- ADC A,E (R143). -/
def exec_adc_a_e (s : State) : Result := aluR8 .adc .e s

/-- ADC A,H (R143). -/
def exec_adc_a_h (s : State) : Result := aluR8 .adc .h s

/-- ADC A,L (R143). -/
def exec_adc_a_l (s : State) : Result := aluR8 .adc .l s

/-- ADC A,(HL) (R143). -/
def exec_adc_a_atHL (s : State) : Result := aluR8 .adc .atHL s

/-- ADC A,A (R143). -/
def exec_adc_a_a (s : State) : Result := aluR8 .adc .a s

/-- SUB B (R145). -/
def exec_sub_b (s : State) : Result := aluR8 .sub .b s

/-- SUB C (R145). -/
def exec_sub_c (s : State) : Result := aluR8 .sub .c s

/-- SUB D (R145). -/
def exec_sub_d (s : State) : Result := aluR8 .sub .d s

/-- SUB E (R145). -/
def exec_sub_e (s : State) : Result := aluR8 .sub .e s

/-- SUB H (R145). -/
def exec_sub_h (s : State) : Result := aluR8 .sub .h s

/-- SUB L (R145). -/
def exec_sub_l (s : State) : Result := aluR8 .sub .l s

/-- SUB (HL) (R145). -/
def exec_sub_atHL (s : State) : Result := aluR8 .sub .atHL s

/-- SUB A (R145). -/
def exec_sub_a (s : State) : Result := aluR8 .sub .a s

/-- SBC A,B (R147). -/
def exec_sbc_a_b (s : State) : Result := aluR8 .sbc .b s

/-- SBC A,C (R147). -/
def exec_sbc_a_c (s : State) : Result := aluR8 .sbc .c s

/-- SBC A,D (R147). -/
def exec_sbc_a_d (s : State) : Result := aluR8 .sbc .d s

/-- SBC A,E (R147). -/
def exec_sbc_a_e (s : State) : Result := aluR8 .sbc .e s

/-- SBC A,H (R147). -/
def exec_sbc_a_h (s : State) : Result := aluR8 .sbc .h s

/-- SBC A,L (R147). -/
def exec_sbc_a_l (s : State) : Result := aluR8 .sbc .l s

/-- SBC A,(HL) (R147). -/
def exec_sbc_a_atHL (s : State) : Result := aluR8 .sbc .atHL s

/-- SBC A,A (R147). -/
def exec_sbc_a_a (s : State) : Result := aluR8 .sbc .a s

/-- AND B (R149). -/
def exec_and_b (s : State) : Result := aluR8 .and .b s

/-- AND C (R149). -/
def exec_and_c (s : State) : Result := aluR8 .and .c s

/-- AND D (R149). -/
def exec_and_d (s : State) : Result := aluR8 .and .d s

/-- AND E (R149). -/
def exec_and_e (s : State) : Result := aluR8 .and .e s

/-- AND H (R149). -/
def exec_and_h (s : State) : Result := aluR8 .and .h s

/-- AND L (R149). -/
def exec_and_l (s : State) : Result := aluR8 .and .l s

/-- AND (HL) (R149). -/
def exec_and_atHL (s : State) : Result := aluR8 .and .atHL s

/-- AND A (R149). -/
def exec_and_a (s : State) : Result := aluR8 .and .a s

/-- XOR B (R151). -/
def exec_xor_b (s : State) : Result := aluR8 .xor .b s

/-- XOR C (R151). -/
def exec_xor_c (s : State) : Result := aluR8 .xor .c s

/-- XOR D (R151). -/
def exec_xor_d (s : State) : Result := aluR8 .xor .d s

/-- XOR E (R151). -/
def exec_xor_e (s : State) : Result := aluR8 .xor .e s

/-- XOR H (R151). -/
def exec_xor_h (s : State) : Result := aluR8 .xor .h s

/-- XOR L (R151). -/
def exec_xor_l (s : State) : Result := aluR8 .xor .l s

/-- XOR (HL) (R151). -/
def exec_xor_atHL (s : State) : Result := aluR8 .xor .atHL s

/-- XOR A (R151). -/
def exec_xor_a (s : State) : Result := aluR8 .xor .a s

/-- OR B (R153). -/
def exec_or_b (s : State) : Result := aluR8 .or .b s

/-- OR C (R153). -/
def exec_or_c (s : State) : Result := aluR8 .or .c s

/-- OR D (R153). -/
def exec_or_d (s : State) : Result := aluR8 .or .d s

/-- OR E (R153). -/
def exec_or_e (s : State) : Result := aluR8 .or .e s

/-- OR H (R153). -/
def exec_or_h (s : State) : Result := aluR8 .or .h s

/-- OR L (R153). -/
def exec_or_l (s : State) : Result := aluR8 .or .l s

/-- OR (HL) (R153). -/
def exec_or_atHL (s : State) : Result := aluR8 .or .atHL s

/-- OR A (R153). -/
def exec_or_a (s : State) : Result := aluR8 .or .a s

/-- CP B (R155). -/
def exec_cp_b (s : State) : Result := aluR8 .cp .b s

/-- CP C (R155). -/
def exec_cp_c (s : State) : Result := aluR8 .cp .c s

/-- CP D (R155). -/
def exec_cp_d (s : State) : Result := aluR8 .cp .d s

/-- CP E (R155). -/
def exec_cp_e (s : State) : Result := aluR8 .cp .e s

/-- CP H (R155). -/
def exec_cp_h (s : State) : Result := aluR8 .cp .h s

/-- CP L (R155). -/
def exec_cp_l (s : State) : Result := aluR8 .cp .l s

/-- CP (HL) (R155). -/
def exec_cp_atHL (s : State) : Result := aluR8 .cp .atHL s

/-- CP A (R155). -/
def exec_cp_a (s : State) : Result := aluR8 .cp .a s

/-- ADD A,n (R142). -/
def exec_add_a_n (n : Byte) (s : State) : Result := aluImm .add n s

/-- ADC A,n (R144). -/
def exec_adc_a_n (n : Byte) (s : State) : Result := aluImm .adc n s

/-- SUB n (R146). -/
def exec_sub_n (n : Byte) (s : State) : Result := aluImm .sub n s

/-- SBC A,n (R148). -/
def exec_sbc_a_n (n : Byte) (s : State) : Result := aluImm .sbc n s

/-- AND n (R150). -/
def exec_and_n (n : Byte) (s : State) : Result := aluImm .and n s

/-- ADD SP,n (R162). -/
def exec_add_sp_n (n : Byte) (s : State) : Result := addToSP n s

/-- XOR n (R152). -/
def exec_xor_n (n : Byte) (s : State) : Result := aluImm .xor n s

/-- OR n (R154). -/
def exec_or_n (n : Byte) (s : State) : Result := aluImm .or n s

/-- CP n (R156). -/
def exec_cp_n (n : Byte) (s : State) : Result := aluImm .cp n s

end Sys2Proof.Machine
end

