-- ==== Sys2Proof/Machine/Control.lean ====
section
/-! DEFINITION. Jumps, calls, returns, restarts (44_control.md), and the unknown opcodes (60_exceptions.md R213). -/

namespace Sys2Proof.Machine

/-! ## Shared operations -/

/-- JP nn and JP (HL) (R190, R191). -/
def jump (target : Word) (base : Nat) (s : State) : Result := .next ((s.setPC target).retire base)

/-- JP cc,nn (R192): base 12, taken +4. -/
def jumpIf (cc : Cond) (nn : Word) (s : State) : Result :=
  .next ((if s.cond cc then (s.setPC nn).addExtra 4 else s).retire 12)

/-- JR n (R193): the base of the sum is the PC after the fetches (D22, log 18). -/
def jumpRel (n : Byte) (s : State) : Result := .next ((s.setPC (s.pc + sext16 n)).retire 12)

/-- JR cc,n (R194): base 8, taken +4. -/
def jumpRelIf (cc : Cond) (n : Byte) (s : State) : Result :=
  .next ((if s.cond cc then (s.setPC (s.pc + sext16 n)).addExtra 4 else s).retire 8)

/-- Push the return address and jump (R195, R200). -/
def State.callTo (target : Word) (s : State) : State := (s.push16 s.pc).setPC target

/-- CALL nn and RST t (R195, R200). -/
def call (target : Word) (base : Nat) (s : State) : Result := .next ((s.callTo target).retire base)

/-- CALL cc,nn (R196): base 12, taken +12. -/
def callIf (cc : Cond) (nn : Word) (s : State) : Result :=
  .next ((if s.cond cc then (s.callTo nn).addExtra 12 else s).retire 12)

/-- `PC <- Pop16()` (R197). -/
def State.popPC (s : State) : State :=
  let v := s.pop16
  v.2.setPC v.1

/-- RET (R197). -/
def return_ (s : State) : Result := .next (s.popPC.retire 16)

/-- RETI (R198): RET, and IME set in the same step (D21, log 12). -/
def returnEnable (s : State) : Result := .next ((s.popPC.setIME true).retire 16)

/-- RET cc (R199): base 8, taken +12. -/
def returnIf (cc : Cond) (s : State) : Result :=
  .next ((if s.cond cc then s.popPC.addExtra 12 else s).retire 8)

/-- RST t's target, `t * 8` (R200). -/
def rstTarget (t : Nat) : Word := BitVec.ofNat 16 (t * 8)

/-! ## One meaning for each row of the table -/

/-- JR n (R193). -/
def exec_jr_n (n : Byte) (s : State) : Result := jumpRel n s

/-- JR NZ,n (R194). -/
def exec_jr_nz_n (n : Byte) (s : State) : Result := jumpRelIf .nz n s

/-- JR Z,n (R194). -/
def exec_jr_z_n (n : Byte) (s : State) : Result := jumpRelIf .z n s

/-- JR NC,n (R194). -/
def exec_jr_nc_n (n : Byte) (s : State) : Result := jumpRelIf .nc n s

/-- JR C,n (R194). -/
def exec_jr_c_n (n : Byte) (s : State) : Result := jumpRelIf .c n s

/-- RET NZ (R199). -/
def exec_ret_nz (s : State) : Result := returnIf .nz s

/-- JP NZ,nn (R192). -/
def exec_jp_nz_nn (nn : Word) (s : State) : Result := jumpIf .nz nn s

/-- JP nn (R190). -/
def exec_jp_nn (nn : Word) (s : State) : Result := jump nn 16 s

/-- CALL NZ,nn (R196). -/
def exec_call_nz_nn (nn : Word) (s : State) : Result := callIf .nz nn s

/-- RST 0x00 (R200). -/
def exec_rst_00 (s : State) : Result := call (rstTarget 0) 16 s

/-- RET Z (R199). -/
def exec_ret_z (s : State) : Result := returnIf .z s

/-- RET (R197). -/
def exec_ret (s : State) : Result := return_ s

/-- JP Z,nn (R192). -/
def exec_jp_z_nn (nn : Word) (s : State) : Result := jumpIf .z nn s

/-- CALL Z,nn (R196). -/
def exec_call_z_nn (nn : Word) (s : State) : Result := callIf .z nn s

/-- CALL nn (R195). -/
def exec_call_nn (nn : Word) (s : State) : Result := call nn 24 s

/-- RST 0x08 (R200). -/
def exec_rst_08 (s : State) : Result := call (rstTarget 1) 16 s

/-- RET NC (R199). -/
def exec_ret_nc (s : State) : Result := returnIf .nc s

/-- JP NC,nn (R192). -/
def exec_jp_nc_nn (nn : Word) (s : State) : Result := jumpIf .nc nn s

/-- An unknown opcode (R213). A terminal fault (R215). -/
def exec_unknown (op : Byte) (s : State) : Result := raiseUnknownOpcode op s

/-- CALL NC,nn (R196). -/
def exec_call_nc_nn (nn : Word) (s : State) : Result := callIf .nc nn s

/-- RST 0x10 (R200). -/
def exec_rst_10 (s : State) : Result := call (rstTarget 2) 16 s

/-- RET C (R199). -/
def exec_ret_c (s : State) : Result := returnIf .c s

/-- RETI (R198). -/
def exec_reti (s : State) : Result := returnEnable s

/-- JP C,nn (R192). -/
def exec_jp_c_nn (nn : Word) (s : State) : Result := jumpIf .c nn s

/-- CALL C,nn (R196). -/
def exec_call_c_nn (nn : Word) (s : State) : Result := callIf .c nn s

/-- RST 0x18 (R200). -/
def exec_rst_18 (s : State) : Result := call (rstTarget 3) 16 s

/-- RST 0x20 (R200). -/
def exec_rst_20 (s : State) : Result := call (rstTarget 4) 16 s

/-- JP (HL) (R191). -/
def exec_jp_hl (s : State) : Result := jump s.hl 4 s

/-- RST 0x28 (R200). -/
def exec_rst_28 (s : State) : Result := call (rstTarget 5) 16 s

/-- RST 0x30 (R200). -/
def exec_rst_30 (s : State) : Result := call (rstTarget 6) 16 s

/-- RST 0x38 (R200). -/
def exec_rst_38 (s : State) : Result := call (rstTarget 7) 16 s

end Sys2Proof.Machine
end

