-- ==== Sys2Proof/Machine/Latches.lean ====
section
/-! DEFINITION. NOP, DI, EI, HALT and STOP (45_latches.md). -/

namespace Sys2Proof.Machine

/-! ## Shared operations -/

/-- An instruction whose fetches are its only effect (R205, R208, R209). -/
def noEffect (s : State) : Result := .next (s.retire 4)

/-- DI and EI (R206, R207). -/
def writeIME (v : Bool) (s : State) : Result := .next ((s.setIME v).retire 4)

/-! ## One meaning for each row of the table -/

/-- NOP (R205). -/
def exec_nop (s : State) : Result := noEffect s

/-- STOP (R209). The operand byte `x` was fetched and is ignored; there is no stop state (D16, log 11). -/
def exec_stop (_x : Byte) (s : State) : Result := noEffect s

/-- HALT (R208). A no-op placeholder: the block has no halt state (D17, log 10). -/
def exec_halt (s : State) : Result := noEffect s

/-- DI (R206). -/
def exec_di (s : State) : Result := writeIME false s

/-- EI (R207). No delay (D21, log 12). -/
def exec_ei (s : State) : Result := writeIME true s

end Sys2Proof.Machine
end

