-- ==== Sys2Proof/Machine/Loads.lean ====
section
/-! DEFINITION. Loads, stores and stack transfers (41_loads.md). A meaning is the handler of its instruction: it runs in
the state after all of the instruction's fetches (40_dispatch.md R108), with PC at the next instruction (44_control.md).
First the operations shared by the rows of a form, then one definition for each row of the table. -/

namespace Sys2Proof.Machine

/-! ## Shared operations -/

/-- LD r,r' (R115): 4; 8 if either index is 6. -/
def copyR8 (dst src : R8) (s : State) : Result :=
  let v := s.readR8 src
  .next ((v.2.writeR8 dst v.1).retire (if dst = .atHL ∨ src = .atHL then 8 else 4))

/-- LD r,n (R116): 8; 12 if r = 6. -/
def loadImm (dst : R8) (n : Byte) (s : State) : Result :=
  .next ((s.writeR8 dst n).retire (costR8 dst 8 12))

/-- Store A at an address (R117, R118, R125, R127, R129). -/
def storeA (addr : Word) (base : Nat) (s : State) : Result :=
  .next ((s.memWrite addr s.a).retire base)

/-- Load A from an address (R119, R120, R126, R128, R130). -/
def loadA (addr : Word) (base : Nat) (s : State) : Result :=
  let v := s.memRead addr
  .next ((v.2.setA v.1).retire base)

/-- Store A at HL, then move HL by `delta` modulo 65536 (R121, R123). -/
def storeAStep (delta : Word) (s : State) : Result :=
  .next (((s.memWrite s.hl s.a).setHL (s.hl + delta)).retire 8)

/-- Load A from HL, then move HL by `delta` modulo 65536 (R122, R124). -/
def loadAStep (delta : Word) (s : State) : Result :=
  let v := s.memRead s.hl
  .next (((v.2.setA v.1).setHL (s.hl + delta)).retire 8)

/-- LD r16,nn (R131). -/
def loadR16 (p : R16) (nn : Word) (s : State) : Result := .next ((s.writeR16 p nn).retire 12)

/-- LD (nn),SP (R132): low byte at nn, then high byte at nn + 1 modulo 65536 (D4, D5). -/
def storeSP (nn : Word) (s : State) : Result :=
  .next (((s.memWrite nn (lo8 s.sp)).memWrite (nn + 1) (hi8 s.sp)).retire 20)

/-- LD SP,HL (R133). -/
def copyHLToSP (s : State) : Result := .next ((s.setSP s.hl).retire 8)

/-- LD HL,SP+n (R134). -/
def loadHLOffset (n : Byte) (s : State) : Result :=
  let r := addOffset s.sp n
  .next (((s.setHL r.1).setFlags false false r.2.1 r.2.2).retire 12)

/-- PUSH rr (R135). -/
def pushR16 (q : R16s) (s : State) : Result := .next ((s.push16 (s.readR16s q)).retire 16)

/-- POP rr and POP AF (R136, R137). -/
def popR16 (q : R16s) (s : State) : Result :=
  let v := s.pop16
  .next ((v.2.writeR16s q v.1).retire 12)

/-! ## One meaning for each row of the table -/

/-- LD BC,nn (R131). -/
def exec_ld_bc_nn (nn : Word) (s : State) : Result := loadR16 .bc nn s

/-- LD (BC),A (R117). -/
def exec_ld_atBC_a (s : State) : Result := storeA s.bc 8 s

/-- LD B,n (R116). -/
def exec_ld_b_n (n : Byte) (s : State) : Result := loadImm .b n s

/-- LD (nn),SP (R132). -/
def exec_ld_atNn_sp (nn : Word) (s : State) : Result := storeSP nn s

/-- LD A,(BC) (R119). -/
def exec_ld_a_atBC (s : State) : Result := loadA s.bc 8 s

/-- LD C,n (R116). -/
def exec_ld_c_n (n : Byte) (s : State) : Result := loadImm .c n s

/-- LD DE,nn (R131). -/
def exec_ld_de_nn (nn : Word) (s : State) : Result := loadR16 .de nn s

/-- LD (DE),A (R118). -/
def exec_ld_atDE_a (s : State) : Result := storeA s.de 8 s

/-- LD D,n (R116). -/
def exec_ld_d_n (n : Byte) (s : State) : Result := loadImm .d n s

/-- LD A,(DE) (R120). -/
def exec_ld_a_atDE (s : State) : Result := loadA s.de 8 s

/-- LD E,n (R116). -/
def exec_ld_e_n (n : Byte) (s : State) : Result := loadImm .e n s

/-- LD HL,nn (R131). -/
def exec_ld_hl_nn (nn : Word) (s : State) : Result := loadR16 .hl nn s

/-- LDI (HL),A (R121). -/
def exec_ldi_atHL_a (s : State) : Result := storeAStep 1 s

/-- LD H,n (R116). -/
def exec_ld_h_n (n : Byte) (s : State) : Result := loadImm .h n s

/-- LDI A,(HL) (R122). -/
def exec_ldi_a_atHL (s : State) : Result := loadAStep 1 s

/-- LD L,n (R116). -/
def exec_ld_l_n (n : Byte) (s : State) : Result := loadImm .l n s

/-- LD SP,nn (R131). -/
def exec_ld_sp_nn (nn : Word) (s : State) : Result := loadR16 .sp nn s

/-- LDD (HL),A (R123). -/
def exec_ldd_atHL_a (s : State) : Result := storeAStep (-1) s

/-- LD (HL),n (R116). -/
def exec_ld_atHL_n (n : Byte) (s : State) : Result := loadImm .atHL n s

/-- LDD A,(HL) (R124). -/
def exec_ldd_a_atHL (s : State) : Result := loadAStep (-1) s

/-- LD A,n (R116). -/
def exec_ld_a_n (n : Byte) (s : State) : Result := loadImm .a n s

/-- LD B,B (R115). -/
def exec_ld_b_b (s : State) : Result := copyR8 .b .b s

/-- LD B,C (R115). -/
def exec_ld_b_c (s : State) : Result := copyR8 .b .c s

/-- LD B,D (R115). -/
def exec_ld_b_d (s : State) : Result := copyR8 .b .d s

/-- LD B,E (R115). -/
def exec_ld_b_e (s : State) : Result := copyR8 .b .e s

/-- LD B,H (R115). -/
def exec_ld_b_h (s : State) : Result := copyR8 .b .h s

/-- LD B,L (R115). -/
def exec_ld_b_l (s : State) : Result := copyR8 .b .l s

/-- LD B,(HL) (R115). -/
def exec_ld_b_atHL (s : State) : Result := copyR8 .b .atHL s

/-- LD B,A (R115). -/
def exec_ld_b_a (s : State) : Result := copyR8 .b .a s

/-- LD C,B (R115). -/
def exec_ld_c_b (s : State) : Result := copyR8 .c .b s

/-- LD C,C (R115). -/
def exec_ld_c_c (s : State) : Result := copyR8 .c .c s

/-- LD C,D (R115). -/
def exec_ld_c_d (s : State) : Result := copyR8 .c .d s

/-- LD C,E (R115). -/
def exec_ld_c_e (s : State) : Result := copyR8 .c .e s

/-- LD C,H (R115). -/
def exec_ld_c_h (s : State) : Result := copyR8 .c .h s

/-- LD C,L (R115). -/
def exec_ld_c_l (s : State) : Result := copyR8 .c .l s

/-- LD C,(HL) (R115). -/
def exec_ld_c_atHL (s : State) : Result := copyR8 .c .atHL s

/-- LD C,A (R115). -/
def exec_ld_c_a (s : State) : Result := copyR8 .c .a s

/-- LD D,B (R115). -/
def exec_ld_d_b (s : State) : Result := copyR8 .d .b s

/-- LD D,C (R115). -/
def exec_ld_d_c (s : State) : Result := copyR8 .d .c s

/-- LD D,D (R115). -/
def exec_ld_d_d (s : State) : Result := copyR8 .d .d s

/-- LD D,E (R115). -/
def exec_ld_d_e (s : State) : Result := copyR8 .d .e s

/-- LD D,H (R115). -/
def exec_ld_d_h (s : State) : Result := copyR8 .d .h s

/-- LD D,L (R115). -/
def exec_ld_d_l (s : State) : Result := copyR8 .d .l s

/-- LD D,(HL) (R115). -/
def exec_ld_d_atHL (s : State) : Result := copyR8 .d .atHL s

/-- LD D,A (R115). -/
def exec_ld_d_a (s : State) : Result := copyR8 .d .a s

/-- LD E,B (R115). -/
def exec_ld_e_b (s : State) : Result := copyR8 .e .b s

/-- LD E,C (R115). -/
def exec_ld_e_c (s : State) : Result := copyR8 .e .c s

/-- LD E,D (R115). -/
def exec_ld_e_d (s : State) : Result := copyR8 .e .d s

/-- LD E,E (R115). -/
def exec_ld_e_e (s : State) : Result := copyR8 .e .e s

/-- LD E,H (R115). -/
def exec_ld_e_h (s : State) : Result := copyR8 .e .h s

/-- LD E,L (R115). -/
def exec_ld_e_l (s : State) : Result := copyR8 .e .l s

/-- LD E,(HL) (R115). -/
def exec_ld_e_atHL (s : State) : Result := copyR8 .e .atHL s

/-- LD E,A (R115). -/
def exec_ld_e_a (s : State) : Result := copyR8 .e .a s

/-- LD H,B (R115). -/
def exec_ld_h_b (s : State) : Result := copyR8 .h .b s

/-- LD H,C (R115). -/
def exec_ld_h_c (s : State) : Result := copyR8 .h .c s

/-- LD H,D (R115). -/
def exec_ld_h_d (s : State) : Result := copyR8 .h .d s

/-- LD H,E (R115). -/
def exec_ld_h_e (s : State) : Result := copyR8 .h .e s

/-- LD H,H (R115). -/
def exec_ld_h_h (s : State) : Result := copyR8 .h .h s

/-- LD H,L (R115). -/
def exec_ld_h_l (s : State) : Result := copyR8 .h .l s

/-- LD H,(HL) (R115). -/
def exec_ld_h_atHL (s : State) : Result := copyR8 .h .atHL s

/-- LD H,A (R115). -/
def exec_ld_h_a (s : State) : Result := copyR8 .h .a s

/-- LD L,B (R115). -/
def exec_ld_l_b (s : State) : Result := copyR8 .l .b s

/-- LD L,C (R115). -/
def exec_ld_l_c (s : State) : Result := copyR8 .l .c s

/-- LD L,D (R115). -/
def exec_ld_l_d (s : State) : Result := copyR8 .l .d s

/-- LD L,E (R115). -/
def exec_ld_l_e (s : State) : Result := copyR8 .l .e s

/-- LD L,H (R115). -/
def exec_ld_l_h (s : State) : Result := copyR8 .l .h s

/-- LD L,L (R115). -/
def exec_ld_l_l (s : State) : Result := copyR8 .l .l s

/-- LD L,(HL) (R115). -/
def exec_ld_l_atHL (s : State) : Result := copyR8 .l .atHL s

/-- LD L,A (R115). -/
def exec_ld_l_a (s : State) : Result := copyR8 .l .a s

/-- LD (HL),B (R115). -/
def exec_ld_atHL_b (s : State) : Result := copyR8 .atHL .b s

/-- LD (HL),C (R115). -/
def exec_ld_atHL_c (s : State) : Result := copyR8 .atHL .c s

/-- LD (HL),D (R115). -/
def exec_ld_atHL_d (s : State) : Result := copyR8 .atHL .d s

/-- LD (HL),E (R115). -/
def exec_ld_atHL_e (s : State) : Result := copyR8 .atHL .e s

/-- LD (HL),H (R115). -/
def exec_ld_atHL_h (s : State) : Result := copyR8 .atHL .h s

/-- LD (HL),L (R115). -/
def exec_ld_atHL_l (s : State) : Result := copyR8 .atHL .l s

/-- LD (HL),A (R115). -/
def exec_ld_atHL_a (s : State) : Result := copyR8 .atHL .a s

/-- LD A,B (R115). -/
def exec_ld_a_b (s : State) : Result := copyR8 .a .b s

/-- LD A,C (R115). -/
def exec_ld_a_c (s : State) : Result := copyR8 .a .c s

/-- LD A,D (R115). -/
def exec_ld_a_d (s : State) : Result := copyR8 .a .d s

/-- LD A,E (R115). -/
def exec_ld_a_e (s : State) : Result := copyR8 .a .e s

/-- LD A,H (R115). -/
def exec_ld_a_h (s : State) : Result := copyR8 .a .h s

/-- LD A,L (R115). -/
def exec_ld_a_l (s : State) : Result := copyR8 .a .l s

/-- LD A,(HL) (R115). -/
def exec_ld_a_atHL (s : State) : Result := copyR8 .a .atHL s

/-- LD A,A (R115). -/
def exec_ld_a_a (s : State) : Result := copyR8 .a .a s

/-- POP BC (R136). -/
def exec_pop_bc (s : State) : Result := popR16 .bc s

/-- PUSH BC (R135). -/
def exec_push_bc (s : State) : Result := pushR16 .bc s

/-- POP DE (R136). -/
def exec_pop_de (s : State) : Result := popR16 .de s

/-- PUSH DE (R135). -/
def exec_push_de (s : State) : Result := pushR16 .de s

/-- LDH (n),A (R127). -/
def exec_ldh_atN_a (n : Byte) (s : State) : Result := storeA (highPage n) 12 s

/-- POP HL (R136). -/
def exec_pop_hl (s : State) : Result := popR16 .hl s

/-- LD (C),A (R129). -/
def exec_ld_atC_a (s : State) : Result := storeA (highPage s.c) 8 s

/-- PUSH HL (R135). -/
def exec_push_hl (s : State) : Result := pushR16 .hl s

/-- LD (nn),A (R125). -/
def exec_ld_atNn_a (nn : Word) (s : State) : Result := storeA nn 16 s

/-- LDH A,(n) (R128). -/
def exec_ldh_a_atN (n : Byte) (s : State) : Result := loadA (highPage n) 12 s

/-- POP AF (R137). -/
def exec_pop_af (s : State) : Result := popR16 .af s

/-- LD A,(C) (R130). -/
def exec_ld_a_atC (s : State) : Result := loadA (highPage s.c) 8 s

/-- PUSH AF (R135). -/
def exec_push_af (s : State) : Result := pushR16 .af s

/-- LD HL,SP+n (R134). -/
def exec_ld_hl_sp_n (n : Byte) (s : State) : Result := loadHLOffset n s

/-- LD SP,HL (R133). -/
def exec_ld_sp_hl (s : State) : Result := copyHLToSP s

/-- LD A,(nn) (R126). -/
def exec_ld_a_atNn (nn : Word) (s : State) : Result := loadA nn 16 s

end Sys2Proof.Machine
end

