-- ==== Sys2Proof/WellFormed.lean ====
section
/-! DEFINITION. The well-formed instructions: the terms that stand for exactly one word of the tables. Operand fields
need no check, since each type has exactly its table's values (30_encoding.md R79 to R84). -/

namespace Sys2Proof

/-- `unknown op` stands for one of the eleven unknown bytes (R91). `cbPrefix cb` is a primary-table entry, not an
instruction by itself: the word it begins is the CB table's (R94), so its well-formed name is that entry's (log 20). -/
def Instr.WellFormed (i : Instr) : Bool :=
  match i with
  | .unknown op => Machine.unknownOpcodes.contains op
  | .cbPrefix _ => false
  | _ => true

end Sys2Proof
end

