-- ==== Sys2Proof/Decode.lean ====
section
/-! DEFINITION. The decoder, from the bit fields of 30_encoding.md R77 to R84 and R90, and after it the encoder, from the
opcode map of R88 and R89. -/

namespace Sys2Proof

open Machine

/-! ## Operand fields -/

/-- The r8 index table (10_state.md R31). -/
def R8.ofIndex (i : Nat) : R8 :=
  match i with
  | 0 => .b
  | 1 => .c
  | 2 => .d
  | 3 => .e
  | 4 => .h
  | 5 => .l
  | 6 => .atHL
  | _ => .a

/-- The r8 index of an operand (R31). -/
def R8.index (r : R8) : Nat :=
  match r with
  | .b => 0
  | .c => 1
  | .d => 2
  | .e => 3
  | .h => 4
  | .l => 5
  | .atHL => 6
  | .a => 7

/-- The arithmetic r16 table (R32). -/
def R16.ofIndex (i : Nat) : R16 :=
  match i with
  | 0 => .bc
  | 1 => .de
  | 2 => .hl
  | _ => .sp

/-- The r16 index of an arithmetic operand (R32). -/
def R16.index (p : R16) : Nat :=
  match p with
  | .bc => 0
  | .de => 1
  | .hl => 2
  | .sp => 3

/-- The stack r16 table (R33). -/
def R16s.ofIndex (i : Nat) : R16s :=
  match i with
  | 0 => .bc
  | 1 => .de
  | 2 => .hl
  | _ => .af

/-- The r16 index of a stack operand (R33). -/
def R16s.index (q : R16s) : Nat :=
  match q with
  | .bc => 0
  | .de => 1
  | .hl => 2
  | .af => 3

/-- The condition table (30_encoding.md R81). -/
def Cond.ofIndex (i : Nat) : Cond :=
  match i with
  | 0 => .nz
  | 1 => .z
  | 2 => .nc
  | _ => .c

/-- The index of a condition (R81). -/
def Cond.index (cc : Cond) : Nat :=
  match cc with
  | .nz => 0
  | .z => 1
  | .nc => 2
  | .c => 3

/-- The ALU operation table (R82). -/
def AluOp.ofIndex (i : Nat) : AluOp :=
  match i with
  | 0 => .add
  | 1 => .adc
  | 2 => .sub
  | 3 => .sbc
  | 4 => .and
  | 5 => .xor
  | 6 => .or
  | _ => .cp

/-- The index of an ALU operation (R82). -/
def AluOp.index (k : AluOp) : Nat :=
  match k with
  | .add => 0
  | .adc => 1
  | .sub => 2
  | .sbc => 3
  | .and => 4
  | .xor => 5
  | .or => 6
  | .cp => 7

/-- The rotate type table (R84). -/
def ShiftOp.ofIndex (i : Nat) : ShiftOp :=
  match i with
  | 0 => .rlc
  | 1 => .rrc
  | 2 => .rl
  | 3 => .rr
  | 4 => .sla
  | 5 => .sra
  | 6 => .swap
  | _ => .srl

/-- The index of a rotate type (R84). -/
def ShiftOp.index (t : ShiftOp) : Nat :=
  match t with
  | .rlc => 0
  | .rrc => 1
  | .rl => 2
  | .rr => 3
  | .sla => 4
  | .sra => 5
  | .swap => 6
  | .srl => 7

/-! ## The instruction forms of R90: from operands to the table's row -/

/-- LD r,r' (R115): `01dddsss`; the slot (HL),(HL) is HALT (R99). -/
def Instr.ofLdRR (dst : R8) (src : R8) : Instr :=
  match dst, src with
  | .b, .b => .ld_b_b
  | .b, .c => .ld_b_c
  | .b, .d => .ld_b_d
  | .b, .e => .ld_b_e
  | .b, .h => .ld_b_h
  | .b, .l => .ld_b_l
  | .b, .atHL => .ld_b_atHL
  | .b, .a => .ld_b_a
  | .c, .b => .ld_c_b
  | .c, .c => .ld_c_c
  | .c, .d => .ld_c_d
  | .c, .e => .ld_c_e
  | .c, .h => .ld_c_h
  | .c, .l => .ld_c_l
  | .c, .atHL => .ld_c_atHL
  | .c, .a => .ld_c_a
  | .d, .b => .ld_d_b
  | .d, .c => .ld_d_c
  | .d, .d => .ld_d_d
  | .d, .e => .ld_d_e
  | .d, .h => .ld_d_h
  | .d, .l => .ld_d_l
  | .d, .atHL => .ld_d_atHL
  | .d, .a => .ld_d_a
  | .e, .b => .ld_e_b
  | .e, .c => .ld_e_c
  | .e, .d => .ld_e_d
  | .e, .e => .ld_e_e
  | .e, .h => .ld_e_h
  | .e, .l => .ld_e_l
  | .e, .atHL => .ld_e_atHL
  | .e, .a => .ld_e_a
  | .h, .b => .ld_h_b
  | .h, .c => .ld_h_c
  | .h, .d => .ld_h_d
  | .h, .e => .ld_h_e
  | .h, .h => .ld_h_h
  | .h, .l => .ld_h_l
  | .h, .atHL => .ld_h_atHL
  | .h, .a => .ld_h_a
  | .l, .b => .ld_l_b
  | .l, .c => .ld_l_c
  | .l, .d => .ld_l_d
  | .l, .e => .ld_l_e
  | .l, .h => .ld_l_h
  | .l, .l => .ld_l_l
  | .l, .atHL => .ld_l_atHL
  | .l, .a => .ld_l_a
  | .atHL, .b => .ld_atHL_b
  | .atHL, .c => .ld_atHL_c
  | .atHL, .d => .ld_atHL_d
  | .atHL, .e => .ld_atHL_e
  | .atHL, .h => .ld_atHL_h
  | .atHL, .l => .ld_atHL_l
  | .atHL, .atHL => .halt
  | .atHL, .a => .ld_atHL_a
  | .a, .b => .ld_a_b
  | .a, .c => .ld_a_c
  | .a, .d => .ld_a_d
  | .a, .e => .ld_a_e
  | .a, .h => .ld_a_h
  | .a, .l => .ld_a_l
  | .a, .atHL => .ld_a_atHL
  | .a, .a => .ld_a_a

/-- LD r,n (R116): `00ddd110 n`. -/
def Instr.ofLdRN (dst : R8) (n : Byte) : Instr :=
  match dst with
  | .b => .ld_b_n n
  | .c => .ld_c_n n
  | .d => .ld_d_n n
  | .e => .ld_e_n n
  | .h => .ld_h_n n
  | .l => .ld_l_n n
  | .atHL => .ld_atHL_n n
  | .a => .ld_a_n n

/-- LD r16,nn (R131): `00pp0001 lo hi`. -/
def Instr.ofLdR16 (p : R16) (nn : Word) : Instr :=
  match p with
  | .bc => .ld_bc_nn nn
  | .de => .ld_de_nn nn
  | .hl => .ld_hl_nn nn
  | .sp => .ld_sp_nn nn

/-- PUSH rr (R135): `11qq0101`. -/
def Instr.ofPush (q : R16s) : Instr :=
  match q with
  | .bc => .push_bc
  | .de => .push_de
  | .hl => .push_hl
  | .af => .push_af

/-- POP rr (R136, R137): `11qq0001`. -/
def Instr.ofPop (q : R16s) : Instr :=
  match q with
  | .bc => .pop_bc
  | .de => .pop_de
  | .hl => .pop_hl
  | .af => .pop_af

/-- ALU A,r (R140): `10ooosss`. -/
def Instr.ofAluR (k : AluOp) (src : R8) : Instr :=
  match k, src with
  | .add, .b => .add_a_b
  | .add, .c => .add_a_c
  | .add, .d => .add_a_d
  | .add, .e => .add_a_e
  | .add, .h => .add_a_h
  | .add, .l => .add_a_l
  | .add, .atHL => .add_a_atHL
  | .add, .a => .add_a_a
  | .adc, .b => .adc_a_b
  | .adc, .c => .adc_a_c
  | .adc, .d => .adc_a_d
  | .adc, .e => .adc_a_e
  | .adc, .h => .adc_a_h
  | .adc, .l => .adc_a_l
  | .adc, .atHL => .adc_a_atHL
  | .adc, .a => .adc_a_a
  | .sub, .b => .sub_b
  | .sub, .c => .sub_c
  | .sub, .d => .sub_d
  | .sub, .e => .sub_e
  | .sub, .h => .sub_h
  | .sub, .l => .sub_l
  | .sub, .atHL => .sub_atHL
  | .sub, .a => .sub_a
  | .sbc, .b => .sbc_a_b
  | .sbc, .c => .sbc_a_c
  | .sbc, .d => .sbc_a_d
  | .sbc, .e => .sbc_a_e
  | .sbc, .h => .sbc_a_h
  | .sbc, .l => .sbc_a_l
  | .sbc, .atHL => .sbc_a_atHL
  | .sbc, .a => .sbc_a_a
  | .and, .b => .and_b
  | .and, .c => .and_c
  | .and, .d => .and_d
  | .and, .e => .and_e
  | .and, .h => .and_h
  | .and, .l => .and_l
  | .and, .atHL => .and_atHL
  | .and, .a => .and_a
  | .xor, .b => .xor_b
  | .xor, .c => .xor_c
  | .xor, .d => .xor_d
  | .xor, .e => .xor_e
  | .xor, .h => .xor_h
  | .xor, .l => .xor_l
  | .xor, .atHL => .xor_atHL
  | .xor, .a => .xor_a
  | .or, .b => .or_b
  | .or, .c => .or_c
  | .or, .d => .or_d
  | .or, .e => .or_e
  | .or, .h => .or_h
  | .or, .l => .or_l
  | .or, .atHL => .or_atHL
  | .or, .a => .or_a
  | .cp, .b => .cp_b
  | .cp, .c => .cp_c
  | .cp, .d => .cp_d
  | .cp, .e => .cp_e
  | .cp, .h => .cp_h
  | .cp, .l => .cp_l
  | .cp, .atHL => .cp_atHL
  | .cp, .a => .cp_a

/-- ALU A,n (R140): `11ooo110 n`. -/
def Instr.ofAluN (k : AluOp) (n : Byte) : Instr :=
  match k with
  | .add => .add_a_n n
  | .adc => .adc_a_n n
  | .sub => .sub_n n
  | .sbc => .sbc_a_n n
  | .and => .and_n n
  | .xor => .xor_n n
  | .or => .or_n n
  | .cp => .cp_n n

/-- INC r (R157): `00ddd100`. -/
def Instr.ofIncR (dst : R8) : Instr :=
  match dst with
  | .b => .inc_b
  | .c => .inc_c
  | .d => .inc_d
  | .e => .inc_e
  | .h => .inc_h
  | .l => .inc_l
  | .atHL => .inc_atHL
  | .a => .inc_a

/-- DEC r (R158): `00ddd101`. -/
def Instr.ofDecR (dst : R8) : Instr :=
  match dst with
  | .b => .dec_b
  | .c => .dec_c
  | .d => .dec_d
  | .e => .dec_e
  | .h => .dec_h
  | .l => .dec_l
  | .atHL => .dec_atHL
  | .a => .dec_a

/-- INC rr (R159): `00pp0011`. -/
def Instr.ofIncRR (p : R16) : Instr :=
  match p with
  | .bc => .inc_bc
  | .de => .inc_de
  | .hl => .inc_hl
  | .sp => .inc_sp

/-- DEC rr (R160): `00pp1011`. -/
def Instr.ofDecRR (p : R16) : Instr :=
  match p with
  | .bc => .dec_bc
  | .de => .dec_de
  | .hl => .dec_hl
  | .sp => .dec_sp

/-- ADD HL,rr (R161): `00pp1001`. -/
def Instr.ofAddHL (p : R16) : Instr :=
  match p with
  | .bc => .add_hl_bc
  | .de => .add_hl_de
  | .hl => .add_hl_hl
  | .sp => .add_hl_sp

/-- CB rotate and shift (R177): `11001011 00tttrrr`. -/
def Instr.ofShift (t : ShiftOp) (r : R8) : Instr :=
  match t with
  | .rlc => .rlc r
  | .rrc => .rrc r
  | .rl => .rl r
  | .rr => .rr r
  | .sla => .sla r
  | .sra => .sra r
  | .swap => .swap r
  | .srl => .srl r

/-- JP cc,nn (R192): `110cc010 lo hi`. -/
def Instr.ofJpCC (cc : Cond) (nn : Word) : Instr :=
  match cc with
  | .nz => .jp_nz_nn nn
  | .z => .jp_z_nn nn
  | .nc => .jp_nc_nn nn
  | .c => .jp_c_nn nn

/-- JR cc,n (R194): `001cc000 n`. -/
def Instr.ofJrCC (cc : Cond) (n : Byte) : Instr :=
  match cc with
  | .nz => .jr_nz_n n
  | .z => .jr_z_n n
  | .nc => .jr_nc_n n
  | .c => .jr_c_n n

/-- CALL cc,nn (R196): `110cc100 lo hi`. -/
def Instr.ofCallCC (cc : Cond) (nn : Word) : Instr :=
  match cc with
  | .nz => .call_nz_nn nn
  | .z => .call_z_nn nn
  | .nc => .call_nc_nn nn
  | .c => .call_c_nn nn

/-- RET cc (R199): `110cc000`. -/
def Instr.ofRetCC (cc : Cond) : Instr :=
  match cc with
  | .nz => .ret_nz
  | .z => .ret_z
  | .nc => .ret_nc
  | .c => .ret_c

/-- RST t (R200): `11ttt111`. -/
def Instr.ofRst (t : Fin 8) : Instr :=
  match t.val with
  | 0 => .rst_00
  | 1 => .rst_08
  | 2 => .rst_10
  | 3 => .rst_18
  | 4 => .rst_20
  | 5 => .rst_28
  | 6 => .rst_30
  | _ => .rst_38

/-! ## The decoder -/

/-- The length in bytes, fixed by the first byte alone (R76, R94). An unknown byte ends the step at itself (R91), so
one byte is all that is fetched for it. -/
def instrLength (op : Byte) : Nat :=
  match field op 6 2, field op 3 3, field op 0 3 with
  | 0, 1, 0 => 3  -- LD (nn),SP
  | 0, y, 0 => if y = 0 then 1 else 2  -- NOP; STOP, JR, JR cc
  | 0, y, 1 => if y % 2 = 0 then 3 else 1  -- LD r16,nn; ADD HL,rr
  | 0, _, 6 => 2  -- LD r,n
  | 3, y, 0 => if y < 4 then 1 else 2  -- RET cc; LDH, ADD SP,n, LD HL,SP+n
  | 3, y, 2 => if y = 4 ∨ y = 6 then 1 else 3  -- LD (C),A, LD A,(C); JP cc, LD (nn),A, LD A,(nn)
  | 3, 0, 3 => 3  -- JP nn
  | 3, 1, 3 => 2  -- the CB prefix
  | 3, y, 4 => if y < 4 then 3 else 1  -- CALL cc
  | 3, 1, 5 => 3  -- CALL nn
  | 3, _, 6 => 2  -- ALU A,n
  | _, _, _ => 1

/-- Rows 0x00 to 0x3F of the primary table (R88, R90), by `y = op[5:3]` and `z = op[2:0]`. -/
def decodeX0 (op n : Byte) (nn : Word) (y z : Nat) : Instr :=
  match z with
  | 0 =>
    match y with
    | 0 => .nop
    | 1 => .ld_atNn_sp nn
    | 2 => .stop n
    | 3 => .jr_n n
    | cc => .ofJrCC (.ofIndex (cc % 4)) n
  | 1 => if y % 2 = 0 then .ofLdR16 (.ofIndex (y / 2)) nn else .ofAddHL (.ofIndex (y / 2))
  | 2 =>
    match y with
    | 0 => .ld_atBC_a
    | 1 => .ld_a_atBC
    | 2 => .ld_atDE_a
    | 3 => .ld_a_atDE
    | 4 => .ldi_atHL_a
    | 5 => .ldi_a_atHL
    | 6 => .ldd_atHL_a
    | _ => .ldd_a_atHL
  | 3 => if y % 2 = 0 then .ofIncRR (.ofIndex (y / 2)) else .ofDecRR (.ofIndex (y / 2))
  | 4 => .ofIncR (.ofIndex y)
  | 5 => .ofDecR (.ofIndex y)
  | 6 => .ofLdRN (.ofIndex y) n
  | 7 =>
    match y with
    | 0 => .rlca
    | 1 => .rrca
    | 2 => .rla
    | 3 => .rra
    | 4 => .daa
    | 5 => .cpl
    | 6 => .scf
    | _ => .ccf
  | _ => .unknown op

/-- Rows 0xC0 to 0xFF of the primary table (R88, R90). The eleven bytes without an entry (R91) fall to `unknown`. -/
def decodeX3 (op n : Byte) (nn : Word) (y z : Nat) : Instr :=
  match z with
  | 0 =>
    match y with
    | 4 => .ldh_atN_a n
    | 5 => .add_sp_n n
    | 6 => .ldh_a_atN n
    | 7 => .ld_hl_sp_n n
    | cc => .ofRetCC (.ofIndex cc)
  | 1 =>
    match y with
    | 1 => .ret
    | 3 => .reti
    | 5 => .jp_hl
    | 7 => .ld_sp_hl
    | q => .ofPop (.ofIndex (q / 2))
  | 2 =>
    match y with
    | 4 => .ld_atC_a
    | 5 => .ld_atNn_a nn
    | 6 => .ld_a_atC
    | 7 => .ld_a_atNn nn
    | cc => .ofJpCC (.ofIndex cc) nn
  | 3 =>
    match y with
    | 0 => .jp_nn nn
    | 1 => .cbPrefix n
    | 6 => .di
    | 7 => .ei
    | _ => .unknown op
  | 4 => if y < 4 then .ofCallCC (.ofIndex y) nn else .unknown op
  | 5 => if y = 1 then .call_nn nn else if y % 2 = 0 then .ofPush (.ofIndex (y / 2)) else .unknown op
  | 6 => .ofAluN (.ofIndex y) n
  | 7 => .ofRst (Fin.ofNat 8 y)
  | _ => .unknown op

/-- The primary table (R88): the entry of the opcode `op`, with the immediates taken from the two bytes after it, low
byte first (R86). The entry of 0xCB is the prefix (R94). A byte with `op[7:6] = 1` is tested for HALT before the
LD r,r' fields are read (R99): `Instr.ofLdRR` gives HALT for that slot. -/
def decodePrimary (op b1 b2 : Byte) : Instr :=
  match field op 6 2 with
  | 0 => decodeX0 op b1 (join b2 b1) (field op 3 3) (field op 0 3)
  | 1 => .ofLdRR (.ofIndex (field op 3 3)) (.ofIndex (field op 0 3))
  | 2 => .ofAluR (.ofIndex (field op 3 3)) (.ofIndex (field op 0 3))
  | _ => decodeX3 op b1 (join b2 b1) (field op 3 3) (field op 0 3)

/-- The CB table (R84, R89): every byte has an entry (R92). -/
def decodeCb (cb : Byte) : Instr :=
  match field cb 6 2 with
  | 0 => .ofShift (.ofIndex (field cb 3 3)) (.ofIndex (field cb 0 3))
  | 1 => .bit (Fin.ofNat 8 (field cb 3 3)) (.ofIndex (field cb 0 3))
  | 2 => .res (Fin.ofNat 8 (field cb 3 3)) (.ofIndex (field cb 0 3))
  | _ => .set (Fin.ofNat 8 (field cb 3 3)) (.ofIndex (field cb 0 3))

/-- The prefix redirects decode to the CB table (R94): the instruction a primary entry and its bytes stand for. -/
def resolvePrefix (i : Instr) : Instr :=
  match i with
  | .cbPrefix cb => decodeCb cb
  | j => j

/-- The instruction of an opcode byte and the two bytes after it; bytes beyond the instruction's length are not looked
at. Total on bytes (R95). -/
def decode3 (op b1 b2 : Byte) : Instr := resolvePrefix (decodePrimary op b1 b2)

/-- Why a list of bytes holds no instruction. An unknown opcode is no such case: it decodes to `Instr.unknown`, whose
meaning raises the fault (R213). -/
inductive DecodeError where
  /-- there is no first byte -/
  | empty
  /-- the bytes end before the instruction with this opcode does -/
  | truncated (op : Byte)
  deriving DecidableEq, Repr

/-- The first instruction of a list of bytes in fetch order (R78), and the bytes after it. -/
def decode (bytes : List Byte) : Except DecodeError (Instr × List Byte) :=
  match bytes with
  | [] => .error .empty
  | op :: rest =>
    match instrLength op, rest with
    | 1, rest => .ok (decode3 op 0 0, rest)
    | 2, b1 :: rest => .ok (decode3 op b1 0, rest)
    | 3, b1 :: b2 :: rest => .ok (decode3 op b1 b2, rest)
    | _, _ => .error (.truncated op)

/-! ## The encoder -/

/-- The CB byte of a form: its first byte of R89, the bit number in bits 5..3, the r8 index in bits 2..0 (R84). -/
def cbByte (base : Byte) (k : Fin 8) (r : R8) : Byte := base + BitVec.ofNat 8 (8 * k.val + r.index)

/-- The bytes of an instruction in fetch order (R78), the opcode byte from the map of R88. -/
def encode (i : Instr) : List Byte :=
  match i with
  | .nop => [0x00]
  | .ld_bc_nn nn => [0x01, lo8 nn, hi8 nn]
  | .ld_atBC_a => [0x02]
  | .inc_bc => [0x03]
  | .inc_b => [0x04]
  | .dec_b => [0x05]
  | .ld_b_n n => [0x06, n]
  | .rlca => [0x07]
  | .ld_atNn_sp nn => [0x08, lo8 nn, hi8 nn]
  | .add_hl_bc => [0x09]
  | .ld_a_atBC => [0x0A]
  | .dec_bc => [0x0B]
  | .inc_c => [0x0C]
  | .dec_c => [0x0D]
  | .ld_c_n n => [0x0E, n]
  | .rrca => [0x0F]
  | .stop x => [0x10, x]
  | .ld_de_nn nn => [0x11, lo8 nn, hi8 nn]
  | .ld_atDE_a => [0x12]
  | .inc_de => [0x13]
  | .inc_d => [0x14]
  | .dec_d => [0x15]
  | .ld_d_n n => [0x16, n]
  | .rla => [0x17]
  | .jr_n n => [0x18, n]
  | .add_hl_de => [0x19]
  | .ld_a_atDE => [0x1A]
  | .dec_de => [0x1B]
  | .inc_e => [0x1C]
  | .dec_e => [0x1D]
  | .ld_e_n n => [0x1E, n]
  | .rra => [0x1F]
  | .jr_nz_n n => [0x20, n]
  | .ld_hl_nn nn => [0x21, lo8 nn, hi8 nn]
  | .ldi_atHL_a => [0x22]
  | .inc_hl => [0x23]
  | .inc_h => [0x24]
  | .dec_h => [0x25]
  | .ld_h_n n => [0x26, n]
  | .daa => [0x27]
  | .jr_z_n n => [0x28, n]
  | .add_hl_hl => [0x29]
  | .ldi_a_atHL => [0x2A]
  | .dec_hl => [0x2B]
  | .inc_l => [0x2C]
  | .dec_l => [0x2D]
  | .ld_l_n n => [0x2E, n]
  | .cpl => [0x2F]
  | .jr_nc_n n => [0x30, n]
  | .ld_sp_nn nn => [0x31, lo8 nn, hi8 nn]
  | .ldd_atHL_a => [0x32]
  | .inc_sp => [0x33]
  | .inc_atHL => [0x34]
  | .dec_atHL => [0x35]
  | .ld_atHL_n n => [0x36, n]
  | .scf => [0x37]
  | .jr_c_n n => [0x38, n]
  | .add_hl_sp => [0x39]
  | .ldd_a_atHL => [0x3A]
  | .dec_sp => [0x3B]
  | .inc_a => [0x3C]
  | .dec_a => [0x3D]
  | .ld_a_n n => [0x3E, n]
  | .ccf => [0x3F]
  | .ld_b_b => [0x40]
  | .ld_b_c => [0x41]
  | .ld_b_d => [0x42]
  | .ld_b_e => [0x43]
  | .ld_b_h => [0x44]
  | .ld_b_l => [0x45]
  | .ld_b_atHL => [0x46]
  | .ld_b_a => [0x47]
  | .ld_c_b => [0x48]
  | .ld_c_c => [0x49]
  | .ld_c_d => [0x4A]
  | .ld_c_e => [0x4B]
  | .ld_c_h => [0x4C]
  | .ld_c_l => [0x4D]
  | .ld_c_atHL => [0x4E]
  | .ld_c_a => [0x4F]
  | .ld_d_b => [0x50]
  | .ld_d_c => [0x51]
  | .ld_d_d => [0x52]
  | .ld_d_e => [0x53]
  | .ld_d_h => [0x54]
  | .ld_d_l => [0x55]
  | .ld_d_atHL => [0x56]
  | .ld_d_a => [0x57]
  | .ld_e_b => [0x58]
  | .ld_e_c => [0x59]
  | .ld_e_d => [0x5A]
  | .ld_e_e => [0x5B]
  | .ld_e_h => [0x5C]
  | .ld_e_l => [0x5D]
  | .ld_e_atHL => [0x5E]
  | .ld_e_a => [0x5F]
  | .ld_h_b => [0x60]
  | .ld_h_c => [0x61]
  | .ld_h_d => [0x62]
  | .ld_h_e => [0x63]
  | .ld_h_h => [0x64]
  | .ld_h_l => [0x65]
  | .ld_h_atHL => [0x66]
  | .ld_h_a => [0x67]
  | .ld_l_b => [0x68]
  | .ld_l_c => [0x69]
  | .ld_l_d => [0x6A]
  | .ld_l_e => [0x6B]
  | .ld_l_h => [0x6C]
  | .ld_l_l => [0x6D]
  | .ld_l_atHL => [0x6E]
  | .ld_l_a => [0x6F]
  | .ld_atHL_b => [0x70]
  | .ld_atHL_c => [0x71]
  | .ld_atHL_d => [0x72]
  | .ld_atHL_e => [0x73]
  | .ld_atHL_h => [0x74]
  | .ld_atHL_l => [0x75]
  | .halt => [0x76]
  | .ld_atHL_a => [0x77]
  | .ld_a_b => [0x78]
  | .ld_a_c => [0x79]
  | .ld_a_d => [0x7A]
  | .ld_a_e => [0x7B]
  | .ld_a_h => [0x7C]
  | .ld_a_l => [0x7D]
  | .ld_a_atHL => [0x7E]
  | .ld_a_a => [0x7F]
  | .add_a_b => [0x80]
  | .add_a_c => [0x81]
  | .add_a_d => [0x82]
  | .add_a_e => [0x83]
  | .add_a_h => [0x84]
  | .add_a_l => [0x85]
  | .add_a_atHL => [0x86]
  | .add_a_a => [0x87]
  | .adc_a_b => [0x88]
  | .adc_a_c => [0x89]
  | .adc_a_d => [0x8A]
  | .adc_a_e => [0x8B]
  | .adc_a_h => [0x8C]
  | .adc_a_l => [0x8D]
  | .adc_a_atHL => [0x8E]
  | .adc_a_a => [0x8F]
  | .sub_b => [0x90]
  | .sub_c => [0x91]
  | .sub_d => [0x92]
  | .sub_e => [0x93]
  | .sub_h => [0x94]
  | .sub_l => [0x95]
  | .sub_atHL => [0x96]
  | .sub_a => [0x97]
  | .sbc_a_b => [0x98]
  | .sbc_a_c => [0x99]
  | .sbc_a_d => [0x9A]
  | .sbc_a_e => [0x9B]
  | .sbc_a_h => [0x9C]
  | .sbc_a_l => [0x9D]
  | .sbc_a_atHL => [0x9E]
  | .sbc_a_a => [0x9F]
  | .and_b => [0xA0]
  | .and_c => [0xA1]
  | .and_d => [0xA2]
  | .and_e => [0xA3]
  | .and_h => [0xA4]
  | .and_l => [0xA5]
  | .and_atHL => [0xA6]
  | .and_a => [0xA7]
  | .xor_b => [0xA8]
  | .xor_c => [0xA9]
  | .xor_d => [0xAA]
  | .xor_e => [0xAB]
  | .xor_h => [0xAC]
  | .xor_l => [0xAD]
  | .xor_atHL => [0xAE]
  | .xor_a => [0xAF]
  | .or_b => [0xB0]
  | .or_c => [0xB1]
  | .or_d => [0xB2]
  | .or_e => [0xB3]
  | .or_h => [0xB4]
  | .or_l => [0xB5]
  | .or_atHL => [0xB6]
  | .or_a => [0xB7]
  | .cp_b => [0xB8]
  | .cp_c => [0xB9]
  | .cp_d => [0xBA]
  | .cp_e => [0xBB]
  | .cp_h => [0xBC]
  | .cp_l => [0xBD]
  | .cp_atHL => [0xBE]
  | .cp_a => [0xBF]
  | .ret_nz => [0xC0]
  | .pop_bc => [0xC1]
  | .jp_nz_nn nn => [0xC2, lo8 nn, hi8 nn]
  | .jp_nn nn => [0xC3, lo8 nn, hi8 nn]
  | .call_nz_nn nn => [0xC4, lo8 nn, hi8 nn]
  | .push_bc => [0xC5]
  | .add_a_n n => [0xC6, n]
  | .rst_00 => [0xC7]
  | .ret_z => [0xC8]
  | .ret => [0xC9]
  | .jp_z_nn nn => [0xCA, lo8 nn, hi8 nn]
  | .cbPrefix cb => [0xCB, cb]
  | .call_z_nn nn => [0xCC, lo8 nn, hi8 nn]
  | .call_nn nn => [0xCD, lo8 nn, hi8 nn]
  | .adc_a_n n => [0xCE, n]
  | .rst_08 => [0xCF]
  | .ret_nc => [0xD0]
  | .pop_de => [0xD1]
  | .jp_nc_nn nn => [0xD2, lo8 nn, hi8 nn]
  | .unknown op => [op]
  | .call_nc_nn nn => [0xD4, lo8 nn, hi8 nn]
  | .push_de => [0xD5]
  | .sub_n n => [0xD6, n]
  | .rst_10 => [0xD7]
  | .ret_c => [0xD8]
  | .reti => [0xD9]
  | .jp_c_nn nn => [0xDA, lo8 nn, hi8 nn]
  | .call_c_nn nn => [0xDC, lo8 nn, hi8 nn]
  | .sbc_a_n n => [0xDE, n]
  | .rst_18 => [0xDF]
  | .ldh_atN_a n => [0xE0, n]
  | .pop_hl => [0xE1]
  | .ld_atC_a => [0xE2]
  | .push_hl => [0xE5]
  | .and_n n => [0xE6, n]
  | .rst_20 => [0xE7]
  | .add_sp_n n => [0xE8, n]
  | .jp_hl => [0xE9]
  | .ld_atNn_a nn => [0xEA, lo8 nn, hi8 nn]
  | .xor_n n => [0xEE, n]
  | .rst_28 => [0xEF]
  | .ldh_a_atN n => [0xF0, n]
  | .pop_af => [0xF1]
  | .ld_a_atC => [0xF2]
  | .di => [0xF3]
  | .push_af => [0xF5]
  | .or_n n => [0xF6, n]
  | .rst_30 => [0xF7]
  | .ld_hl_sp_n n => [0xF8, n]
  | .ld_sp_hl => [0xF9]
  | .ld_a_atNn nn => [0xFA, lo8 nn, hi8 nn]
  | .ei => [0xFB]
  | .cp_n n => [0xFE, n]
  | .rst_38 => [0xFF]
  | .rlc r => [0xCB, cbByte 0x00 0 r]
  | .rrc r => [0xCB, cbByte 0x08 0 r]
  | .rl r => [0xCB, cbByte 0x10 0 r]
  | .rr r => [0xCB, cbByte 0x18 0 r]
  | .sla r => [0xCB, cbByte 0x20 0 r]
  | .sra r => [0xCB, cbByte 0x28 0 r]
  | .swap r => [0xCB, cbByte 0x30 0 r]
  | .srl r => [0xCB, cbByte 0x38 0 r]
  | .bit k r => [0xCB, cbByte 0x40 k r]
  | .res k r => [0xCB, cbByte 0x80 k r]
  | .set k r => [0xCB, cbByte 0xC0 k r]

/-! ## One instruction by the opcode table's numbering -/

/-- The three bytes that the bits `w` of a table row stand for, `nbits` of them given and the rest zero. The bytes count
up from bit 0, but spec/opcode_table.json numbers a CB row with its first byte, 0xCB, in bits 15..8 (R96): a 16-bit `w`
with that byte there has the CB opcode in bits 7..0 (DEDUCED, log 21). -/
def tableBytes (nbits w : Nat) : Byte × Byte × Byte :=
  let v := w % 2 ^ nbits
  if nbits = 16 ∧ v / 256 = 0xCB then (0xCB, BitVec.ofNat 8 v, 0)
  else (BitVec.ofNat 8 v, BitVec.ofNat 8 (v / 256), BitVec.ofNat 8 (v / 65536))

/-- The instruction `decode` reads from a table row's bits. -/
def decodeTableWord (nbits w : Nat) : Option Instr :=
  let t := tableBytes nbits w
  match decode [t.1, t.2.1, t.2.2] with
  | .ok (i, _) => some i
  | .error _ => none

end Sys2Proof
end

