-- ==== Sys2Proof/Machine/Rotates.lean ====
section
/-! DEFINITION. Accumulator rotates and the CB bank (43_rotate_shift_bit.md). A CB meaning adds its table entry's base to
`extra`, the base of the 0xCB entry being 0 (40_dispatch.md R103, R106). -/

namespace Sys2Proof.Machine

/-! ## Shared operations -/

/-- RLCA, RRCA, RLA, RRA (R172): Z forced to 0. -/
def rotateA (t : ShiftOp) (s : State) : Result :=
  let r := shift t s.a s.cf
  .next (((s.setA r.1).setFlags false false false r.2).retire 4)

/-- The CB rotates, shifts and SWAP (R177): Z from the result; 8; 16 if r = 6. -/
def cbShift (t : ShiftOp) (r : R8) (s : State) : Result :=
  let v := s.readR8 r
  let o := shift t v.1 s.cf
  .next ((((v.2.writeR8 r o.1).setFlags (o.1 == 0) false false o.2).addExtra (costR8 r 8 16)).retire 0)

/-- BIT b,r (R186): Z the complement of the bit, C preserved, nothing written; 8; 12 if r = 6. -/
def cbBit (k : Fin 8) (r : R8) (s : State) : Result :=
  let v := s.readR8 r
  .next (((v.2.setFlags (!v.1.getLsbD k.val) false true s.cf).addExtra (costR8 r 8 12)).retire 0)

/-- RES b,r (R187): no flag; 8; 16 if r = 6. -/
def cbRes (k : Fin 8) (r : R8) (s : State) : Result :=
  let v := s.readR8 r
  .next (((v.2.writeR8 r (v.1 &&& ~~~((1 : Byte) <<< k.val))).addExtra (costR8 r 8 16)).retire 0)

/-- SET b,r (R188): no flag; 8; 16 if r = 6. -/
def cbSet (k : Fin 8) (r : R8) (s : State) : Result :=
  let v := s.readR8 r
  .next (((v.2.writeR8 r (v.1 ||| ((1 : Byte) <<< k.val))).addExtra (costR8 r 8 16)).retire 0)

/-- The CB sub-dispatch (40_dispatch.md R103): index the CB table (30_encoding.md R84) with the byte after the prefix and
run that entry's handler. -/
def cbDispatch (cb : Byte) (s : State) : Result :=
  match field cb 6 2 with
  | 0 => cbShift (.ofIndex (field cb 3 3)) (.ofIndex (field cb 0 3)) s
  | 1 => cbBit (Fin.ofNat 8 (field cb 3 3)) (.ofIndex (field cb 0 3)) s
  | 2 => cbRes (Fin.ofNat 8 (field cb 3 3)) (.ofIndex (field cb 0 3)) s
  | _ => cbSet (Fin.ofNat 8 (field cb 3 3)) (.ofIndex (field cb 0 3)) s

/-! ## One meaning for each row of the table -/

/-- RLCA (R173). -/
def exec_rlca (s : State) : Result := rotateA .rlc s

/-- RRCA (R174). -/
def exec_rrca (s : State) : Result := rotateA .rrc s

/-- RLA (R175). -/
def exec_rla (s : State) : Result := rotateA .rl s

/-- RRA (R176). -/
def exec_rra (s : State) : Result := rotateA .rr s

/-- The CB prefix (R103). -/
def exec_cbPrefix (cb : Byte) (s : State) : Result := cbDispatch cb s

/-- RLC (R178). -/
def exec_rlc (r : R8) (s : State) : Result := cbShift .rlc r s

/-- RRC (R179). -/
def exec_rrc (r : R8) (s : State) : Result := cbShift .rrc r s

/-- RL (R180). -/
def exec_rl (r : R8) (s : State) : Result := cbShift .rl r s

/-- RR (R181). -/
def exec_rr (r : R8) (s : State) : Result := cbShift .rr r s

/-- SLA (R182). -/
def exec_sla (r : R8) (s : State) : Result := cbShift .sla r s

/-- SRA (R183). -/
def exec_sra (r : R8) (s : State) : Result := cbShift .sra r s

/-- SWAP (R184). -/
def exec_swap (r : R8) (s : State) : Result := cbShift .swap r s

/-- SRL (R185). -/
def exec_srl (r : R8) (s : State) : Result := cbShift .srl r s

/-- BIT (R186). -/
def exec_bit (k : Fin 8) (r : R8) (s : State) : Result := cbBit k r s

/-- RES (R187). -/
def exec_res (k : Fin 8) (r : R8) (s : State) : Result := cbRes k r s

/-- SET (R188). -/
def exec_set (k : Fin 8) (r : R8) (s : State) : Result := cbSet k r s

end Sys2Proof.Machine
end

