-- ==== Sys2Proof/Machine/Dispatch.lean ====
section
/-! DEFINITION. The dispatch from an instruction to its meaning (40_dispatch.md R100, `handler(op)`), one arm a line in
the table's order. -/

namespace Sys2Proof.Machine

def exec (i : Instr) (s : State) : Host.Outcome State Fault Refusal :=
  match i with
  | .nop => Sys2Proof.Machine.exec_nop s
  | .ld_bc_nn nn => Sys2Proof.Machine.exec_ld_bc_nn nn s
  | .ld_atBC_a => Sys2Proof.Machine.exec_ld_atBC_a s
  | .inc_bc => Sys2Proof.Machine.exec_inc_bc s
  | .inc_b => Sys2Proof.Machine.exec_inc_b s
  | .dec_b => Sys2Proof.Machine.exec_dec_b s
  | .ld_b_n n => Sys2Proof.Machine.exec_ld_b_n n s
  | .rlca => Sys2Proof.Machine.exec_rlca s
  | .ld_atNn_sp nn => Sys2Proof.Machine.exec_ld_atNn_sp nn s
  | .add_hl_bc => Sys2Proof.Machine.exec_add_hl_bc s
  | .ld_a_atBC => Sys2Proof.Machine.exec_ld_a_atBC s
  | .dec_bc => Sys2Proof.Machine.exec_dec_bc s
  | .inc_c => Sys2Proof.Machine.exec_inc_c s
  | .dec_c => Sys2Proof.Machine.exec_dec_c s
  | .ld_c_n n => Sys2Proof.Machine.exec_ld_c_n n s
  | .rrca => Sys2Proof.Machine.exec_rrca s
  | .stop x => Sys2Proof.Machine.exec_stop x s
  | .ld_de_nn nn => Sys2Proof.Machine.exec_ld_de_nn nn s
  | .ld_atDE_a => Sys2Proof.Machine.exec_ld_atDE_a s
  | .inc_de => Sys2Proof.Machine.exec_inc_de s
  | .inc_d => Sys2Proof.Machine.exec_inc_d s
  | .dec_d => Sys2Proof.Machine.exec_dec_d s
  | .ld_d_n n => Sys2Proof.Machine.exec_ld_d_n n s
  | .rla => Sys2Proof.Machine.exec_rla s
  | .jr_n n => Sys2Proof.Machine.exec_jr_n n s
  | .add_hl_de => Sys2Proof.Machine.exec_add_hl_de s
  | .ld_a_atDE => Sys2Proof.Machine.exec_ld_a_atDE s
  | .dec_de => Sys2Proof.Machine.exec_dec_de s
  | .inc_e => Sys2Proof.Machine.exec_inc_e s
  | .dec_e => Sys2Proof.Machine.exec_dec_e s
  | .ld_e_n n => Sys2Proof.Machine.exec_ld_e_n n s
  | .rra => Sys2Proof.Machine.exec_rra s
  | .jr_nz_n n => Sys2Proof.Machine.exec_jr_nz_n n s
  | .ld_hl_nn nn => Sys2Proof.Machine.exec_ld_hl_nn nn s
  | .ldi_atHL_a => Sys2Proof.Machine.exec_ldi_atHL_a s
  | .inc_hl => Sys2Proof.Machine.exec_inc_hl s
  | .inc_h => Sys2Proof.Machine.exec_inc_h s
  | .dec_h => Sys2Proof.Machine.exec_dec_h s
  | .ld_h_n n => Sys2Proof.Machine.exec_ld_h_n n s
  | .daa => Sys2Proof.Machine.exec_daa s
  | .jr_z_n n => Sys2Proof.Machine.exec_jr_z_n n s
  | .add_hl_hl => Sys2Proof.Machine.exec_add_hl_hl s
  | .ldi_a_atHL => Sys2Proof.Machine.exec_ldi_a_atHL s
  | .dec_hl => Sys2Proof.Machine.exec_dec_hl s
  | .inc_l => Sys2Proof.Machine.exec_inc_l s
  | .dec_l => Sys2Proof.Machine.exec_dec_l s
  | .ld_l_n n => Sys2Proof.Machine.exec_ld_l_n n s
  | .cpl => Sys2Proof.Machine.exec_cpl s
  | .jr_nc_n n => Sys2Proof.Machine.exec_jr_nc_n n s
  | .ld_sp_nn nn => Sys2Proof.Machine.exec_ld_sp_nn nn s
  | .ldd_atHL_a => Sys2Proof.Machine.exec_ldd_atHL_a s
  | .inc_sp => Sys2Proof.Machine.exec_inc_sp s
  | .inc_atHL => Sys2Proof.Machine.exec_inc_atHL s
  | .dec_atHL => Sys2Proof.Machine.exec_dec_atHL s
  | .ld_atHL_n n => Sys2Proof.Machine.exec_ld_atHL_n n s
  | .scf => Sys2Proof.Machine.exec_scf s
  | .jr_c_n n => Sys2Proof.Machine.exec_jr_c_n n s
  | .add_hl_sp => Sys2Proof.Machine.exec_add_hl_sp s
  | .ldd_a_atHL => Sys2Proof.Machine.exec_ldd_a_atHL s
  | .dec_sp => Sys2Proof.Machine.exec_dec_sp s
  | .inc_a => Sys2Proof.Machine.exec_inc_a s
  | .dec_a => Sys2Proof.Machine.exec_dec_a s
  | .ld_a_n n => Sys2Proof.Machine.exec_ld_a_n n s
  | .ccf => Sys2Proof.Machine.exec_ccf s
  | .ld_b_b => Sys2Proof.Machine.exec_ld_b_b s
  | .ld_b_c => Sys2Proof.Machine.exec_ld_b_c s
  | .ld_b_d => Sys2Proof.Machine.exec_ld_b_d s
  | .ld_b_e => Sys2Proof.Machine.exec_ld_b_e s
  | .ld_b_h => Sys2Proof.Machine.exec_ld_b_h s
  | .ld_b_l => Sys2Proof.Machine.exec_ld_b_l s
  | .ld_b_atHL => Sys2Proof.Machine.exec_ld_b_atHL s
  | .ld_b_a => Sys2Proof.Machine.exec_ld_b_a s
  | .ld_c_b => Sys2Proof.Machine.exec_ld_c_b s
  | .ld_c_c => Sys2Proof.Machine.exec_ld_c_c s
  | .ld_c_d => Sys2Proof.Machine.exec_ld_c_d s
  | .ld_c_e => Sys2Proof.Machine.exec_ld_c_e s
  | .ld_c_h => Sys2Proof.Machine.exec_ld_c_h s
  | .ld_c_l => Sys2Proof.Machine.exec_ld_c_l s
  | .ld_c_atHL => Sys2Proof.Machine.exec_ld_c_atHL s
  | .ld_c_a => Sys2Proof.Machine.exec_ld_c_a s
  | .ld_d_b => Sys2Proof.Machine.exec_ld_d_b s
  | .ld_d_c => Sys2Proof.Machine.exec_ld_d_c s
  | .ld_d_d => Sys2Proof.Machine.exec_ld_d_d s
  | .ld_d_e => Sys2Proof.Machine.exec_ld_d_e s
  | .ld_d_h => Sys2Proof.Machine.exec_ld_d_h s
  | .ld_d_l => Sys2Proof.Machine.exec_ld_d_l s
  | .ld_d_atHL => Sys2Proof.Machine.exec_ld_d_atHL s
  | .ld_d_a => Sys2Proof.Machine.exec_ld_d_a s
  | .ld_e_b => Sys2Proof.Machine.exec_ld_e_b s
  | .ld_e_c => Sys2Proof.Machine.exec_ld_e_c s
  | .ld_e_d => Sys2Proof.Machine.exec_ld_e_d s
  | .ld_e_e => Sys2Proof.Machine.exec_ld_e_e s
  | .ld_e_h => Sys2Proof.Machine.exec_ld_e_h s
  | .ld_e_l => Sys2Proof.Machine.exec_ld_e_l s
  | .ld_e_atHL => Sys2Proof.Machine.exec_ld_e_atHL s
  | .ld_e_a => Sys2Proof.Machine.exec_ld_e_a s
  | .ld_h_b => Sys2Proof.Machine.exec_ld_h_b s
  | .ld_h_c => Sys2Proof.Machine.exec_ld_h_c s
  | .ld_h_d => Sys2Proof.Machine.exec_ld_h_d s
  | .ld_h_e => Sys2Proof.Machine.exec_ld_h_e s
  | .ld_h_h => Sys2Proof.Machine.exec_ld_h_h s
  | .ld_h_l => Sys2Proof.Machine.exec_ld_h_l s
  | .ld_h_atHL => Sys2Proof.Machine.exec_ld_h_atHL s
  | .ld_h_a => Sys2Proof.Machine.exec_ld_h_a s
  | .ld_l_b => Sys2Proof.Machine.exec_ld_l_b s
  | .ld_l_c => Sys2Proof.Machine.exec_ld_l_c s
  | .ld_l_d => Sys2Proof.Machine.exec_ld_l_d s
  | .ld_l_e => Sys2Proof.Machine.exec_ld_l_e s
  | .ld_l_h => Sys2Proof.Machine.exec_ld_l_h s
  | .ld_l_l => Sys2Proof.Machine.exec_ld_l_l s
  | .ld_l_atHL => Sys2Proof.Machine.exec_ld_l_atHL s
  | .ld_l_a => Sys2Proof.Machine.exec_ld_l_a s
  | .ld_atHL_b => Sys2Proof.Machine.exec_ld_atHL_b s
  | .ld_atHL_c => Sys2Proof.Machine.exec_ld_atHL_c s
  | .ld_atHL_d => Sys2Proof.Machine.exec_ld_atHL_d s
  | .ld_atHL_e => Sys2Proof.Machine.exec_ld_atHL_e s
  | .ld_atHL_h => Sys2Proof.Machine.exec_ld_atHL_h s
  | .ld_atHL_l => Sys2Proof.Machine.exec_ld_atHL_l s
  | .halt => Sys2Proof.Machine.exec_halt s
  | .ld_atHL_a => Sys2Proof.Machine.exec_ld_atHL_a s
  | .ld_a_b => Sys2Proof.Machine.exec_ld_a_b s
  | .ld_a_c => Sys2Proof.Machine.exec_ld_a_c s
  | .ld_a_d => Sys2Proof.Machine.exec_ld_a_d s
  | .ld_a_e => Sys2Proof.Machine.exec_ld_a_e s
  | .ld_a_h => Sys2Proof.Machine.exec_ld_a_h s
  | .ld_a_l => Sys2Proof.Machine.exec_ld_a_l s
  | .ld_a_atHL => Sys2Proof.Machine.exec_ld_a_atHL s
  | .ld_a_a => Sys2Proof.Machine.exec_ld_a_a s
  | .add_a_b => Sys2Proof.Machine.exec_add_a_b s
  | .add_a_c => Sys2Proof.Machine.exec_add_a_c s
  | .add_a_d => Sys2Proof.Machine.exec_add_a_d s
  | .add_a_e => Sys2Proof.Machine.exec_add_a_e s
  | .add_a_h => Sys2Proof.Machine.exec_add_a_h s
  | .add_a_l => Sys2Proof.Machine.exec_add_a_l s
  | .add_a_atHL => Sys2Proof.Machine.exec_add_a_atHL s
  | .add_a_a => Sys2Proof.Machine.exec_add_a_a s
  | .adc_a_b => Sys2Proof.Machine.exec_adc_a_b s
  | .adc_a_c => Sys2Proof.Machine.exec_adc_a_c s
  | .adc_a_d => Sys2Proof.Machine.exec_adc_a_d s
  | .adc_a_e => Sys2Proof.Machine.exec_adc_a_e s
  | .adc_a_h => Sys2Proof.Machine.exec_adc_a_h s
  | .adc_a_l => Sys2Proof.Machine.exec_adc_a_l s
  | .adc_a_atHL => Sys2Proof.Machine.exec_adc_a_atHL s
  | .adc_a_a => Sys2Proof.Machine.exec_adc_a_a s
  | .sub_b => Sys2Proof.Machine.exec_sub_b s
  | .sub_c => Sys2Proof.Machine.exec_sub_c s
  | .sub_d => Sys2Proof.Machine.exec_sub_d s
  | .sub_e => Sys2Proof.Machine.exec_sub_e s
  | .sub_h => Sys2Proof.Machine.exec_sub_h s
  | .sub_l => Sys2Proof.Machine.exec_sub_l s
  | .sub_atHL => Sys2Proof.Machine.exec_sub_atHL s
  | .sub_a => Sys2Proof.Machine.exec_sub_a s
  | .sbc_a_b => Sys2Proof.Machine.exec_sbc_a_b s
  | .sbc_a_c => Sys2Proof.Machine.exec_sbc_a_c s
  | .sbc_a_d => Sys2Proof.Machine.exec_sbc_a_d s
  | .sbc_a_e => Sys2Proof.Machine.exec_sbc_a_e s
  | .sbc_a_h => Sys2Proof.Machine.exec_sbc_a_h s
  | .sbc_a_l => Sys2Proof.Machine.exec_sbc_a_l s
  | .sbc_a_atHL => Sys2Proof.Machine.exec_sbc_a_atHL s
  | .sbc_a_a => Sys2Proof.Machine.exec_sbc_a_a s
  | .and_b => Sys2Proof.Machine.exec_and_b s
  | .and_c => Sys2Proof.Machine.exec_and_c s
  | .and_d => Sys2Proof.Machine.exec_and_d s
  | .and_e => Sys2Proof.Machine.exec_and_e s
  | .and_h => Sys2Proof.Machine.exec_and_h s
  | .and_l => Sys2Proof.Machine.exec_and_l s
  | .and_atHL => Sys2Proof.Machine.exec_and_atHL s
  | .and_a => Sys2Proof.Machine.exec_and_a s
  | .xor_b => Sys2Proof.Machine.exec_xor_b s
  | .xor_c => Sys2Proof.Machine.exec_xor_c s
  | .xor_d => Sys2Proof.Machine.exec_xor_d s
  | .xor_e => Sys2Proof.Machine.exec_xor_e s
  | .xor_h => Sys2Proof.Machine.exec_xor_h s
  | .xor_l => Sys2Proof.Machine.exec_xor_l s
  | .xor_atHL => Sys2Proof.Machine.exec_xor_atHL s
  | .xor_a => Sys2Proof.Machine.exec_xor_a s
  | .or_b => Sys2Proof.Machine.exec_or_b s
  | .or_c => Sys2Proof.Machine.exec_or_c s
  | .or_d => Sys2Proof.Machine.exec_or_d s
  | .or_e => Sys2Proof.Machine.exec_or_e s
  | .or_h => Sys2Proof.Machine.exec_or_h s
  | .or_l => Sys2Proof.Machine.exec_or_l s
  | .or_atHL => Sys2Proof.Machine.exec_or_atHL s
  | .or_a => Sys2Proof.Machine.exec_or_a s
  | .cp_b => Sys2Proof.Machine.exec_cp_b s
  | .cp_c => Sys2Proof.Machine.exec_cp_c s
  | .cp_d => Sys2Proof.Machine.exec_cp_d s
  | .cp_e => Sys2Proof.Machine.exec_cp_e s
  | .cp_h => Sys2Proof.Machine.exec_cp_h s
  | .cp_l => Sys2Proof.Machine.exec_cp_l s
  | .cp_atHL => Sys2Proof.Machine.exec_cp_atHL s
  | .cp_a => Sys2Proof.Machine.exec_cp_a s
  | .ret_nz => Sys2Proof.Machine.exec_ret_nz s
  | .pop_bc => Sys2Proof.Machine.exec_pop_bc s
  | .jp_nz_nn nn => Sys2Proof.Machine.exec_jp_nz_nn nn s
  | .jp_nn nn => Sys2Proof.Machine.exec_jp_nn nn s
  | .call_nz_nn nn => Sys2Proof.Machine.exec_call_nz_nn nn s
  | .push_bc => Sys2Proof.Machine.exec_push_bc s
  | .add_a_n n => Sys2Proof.Machine.exec_add_a_n n s
  | .rst_00 => Sys2Proof.Machine.exec_rst_00 s
  | .ret_z => Sys2Proof.Machine.exec_ret_z s
  | .ret => Sys2Proof.Machine.exec_ret s
  | .jp_z_nn nn => Sys2Proof.Machine.exec_jp_z_nn nn s
  | .cbPrefix cb => Sys2Proof.Machine.exec_cbPrefix cb s
  | .call_z_nn nn => Sys2Proof.Machine.exec_call_z_nn nn s
  | .call_nn nn => Sys2Proof.Machine.exec_call_nn nn s
  | .adc_a_n n => Sys2Proof.Machine.exec_adc_a_n n s
  | .rst_08 => Sys2Proof.Machine.exec_rst_08 s
  | .ret_nc => Sys2Proof.Machine.exec_ret_nc s
  | .pop_de => Sys2Proof.Machine.exec_pop_de s
  | .jp_nc_nn nn => Sys2Proof.Machine.exec_jp_nc_nn nn s
  | .unknown op => Sys2Proof.Machine.exec_unknown op s
  | .call_nc_nn nn => Sys2Proof.Machine.exec_call_nc_nn nn s
  | .push_de => Sys2Proof.Machine.exec_push_de s
  | .sub_n n => Sys2Proof.Machine.exec_sub_n n s
  | .rst_10 => Sys2Proof.Machine.exec_rst_10 s
  | .ret_c => Sys2Proof.Machine.exec_ret_c s
  | .reti => Sys2Proof.Machine.exec_reti s
  | .jp_c_nn nn => Sys2Proof.Machine.exec_jp_c_nn nn s
  | .call_c_nn nn => Sys2Proof.Machine.exec_call_c_nn nn s
  | .sbc_a_n n => Sys2Proof.Machine.exec_sbc_a_n n s
  | .rst_18 => Sys2Proof.Machine.exec_rst_18 s
  | .ldh_atN_a n => Sys2Proof.Machine.exec_ldh_atN_a n s
  | .pop_hl => Sys2Proof.Machine.exec_pop_hl s
  | .ld_atC_a => Sys2Proof.Machine.exec_ld_atC_a s
  | .push_hl => Sys2Proof.Machine.exec_push_hl s
  | .and_n n => Sys2Proof.Machine.exec_and_n n s
  | .rst_20 => Sys2Proof.Machine.exec_rst_20 s
  | .add_sp_n n => Sys2Proof.Machine.exec_add_sp_n n s
  | .jp_hl => Sys2Proof.Machine.exec_jp_hl s
  | .ld_atNn_a nn => Sys2Proof.Machine.exec_ld_atNn_a nn s
  | .xor_n n => Sys2Proof.Machine.exec_xor_n n s
  | .rst_28 => Sys2Proof.Machine.exec_rst_28 s
  | .ldh_a_atN n => Sys2Proof.Machine.exec_ldh_a_atN n s
  | .pop_af => Sys2Proof.Machine.exec_pop_af s
  | .ld_a_atC => Sys2Proof.Machine.exec_ld_a_atC s
  | .di => Sys2Proof.Machine.exec_di s
  | .push_af => Sys2Proof.Machine.exec_push_af s
  | .or_n n => Sys2Proof.Machine.exec_or_n n s
  | .rst_30 => Sys2Proof.Machine.exec_rst_30 s
  | .ld_hl_sp_n n => Sys2Proof.Machine.exec_ld_hl_sp_n n s
  | .ld_sp_hl => Sys2Proof.Machine.exec_ld_sp_hl s
  | .ld_a_atNn nn => Sys2Proof.Machine.exec_ld_a_atNn nn s
  | .ei => Sys2Proof.Machine.exec_ei s
  | .cp_n n => Sys2Proof.Machine.exec_cp_n n s
  | .rst_38 => Sys2Proof.Machine.exec_rst_38 s
  | .rlc r => Sys2Proof.Machine.exec_rlc r s
  | .rrc r => Sys2Proof.Machine.exec_rrc r s
  | .rl r => Sys2Proof.Machine.exec_rl r s
  | .rr r => Sys2Proof.Machine.exec_rr r s
  | .sla r => Sys2Proof.Machine.exec_sla r s
  | .sra r => Sys2Proof.Machine.exec_sra r s
  | .swap r => Sys2Proof.Machine.exec_swap r s
  | .srl r => Sys2Proof.Machine.exec_srl r s
  | .bit k r => Sys2Proof.Machine.exec_bit k r s
  | .res k r => Sys2Proof.Machine.exec_res k r s
  | .set k r => Sys2Proof.Machine.exec_set k r s

end Sys2Proof.Machine
end

