-- ==== Sys2Proof/Machine/Fetch.lean ====
section
/-! DEFINITION. Fetching and decoding one instruction (40_dispatch.md R100 to R103, R108), and placing one where the next
step fetches it. -/

namespace Sys2Proof.Machine

/-- The fetches of a step and what they decode to (R100, R108): the accumulator cleared, the opcode fetched, then the
bytes its length asks for, in address order. The state is the one after them, with PC at the next instruction (10_state.md
R36). -/
def State.fetchInstr (s : State) : Instr × State :=
  let op := s.beginStep.fetch8
  match instrLength op.1 with
  | 1 => (decode3 op.1 0 0, op.2)
  | 2 =>
    let b1 := op.2.fetch8
    (decode3 op.1 b1.1 0, b1.2)
  | _ =>
    let b1 := op.2.fetch8
    let b2 := b1.2.fetch8
    (decode3 op.1 b1.1 b2.1, b2.2)

/-- Whether a byte placed at the address can be read back: not in Echo or Unusable (20_memory.md R52, R54). -/
def placeable (a : Word) : Bool := !(regionOf a.toNat).readsFF

/-- Where `placeBytes` puts an instruction: at PC, or at the entry point 0x0100 (70_reset_and_hazards.md R236) when one of
the three bytes from PC on could not be read back. -/
def placeBase (s : State) : Word :=
  if placeable s.pc && placeable (s.pc + 1) && placeable (s.pc + 2) then s.pc else 0x0100

/-- Three bytes put straight into `mem` at the fetch address, as construction puts the ROM image there: no bus write, so
ROM's discard does not stop it (20_memory.md R59; log 5). PC moves only where its own bytes cannot hold an instruction.
A substituted bus is made to answer the next fetches with the instruction's bytes. -/
def State.placeBytes (b0 b1 b2 : Byte) (s : State) : State :=
  match s.backend with
  | .mmu =>
    let p := placeBase s
    { s with
      pc := p
      mem := ((s.mem.put p.toNat b0).put (p + 1).toNat b1).put (p + 2).toNat b2 }
  | .substituted replies past =>
    { s with backend := .substituted ([b0, b1, b2].take (instrLength b0) ++ replies) past }

end Sys2Proof.Machine
end

