-- ==== Sys2Proof/Machine/Step.lean ====
section
/-! DEFINITION. One step of the block (40_dispatch.md R100, R113). -/

namespace Sys2Proof.Machine

/-- `step()` (R100): fetch and decode one instruction, then run its handler. The count it returns is in `cycles`. -/
def step (s : State) : Host.Outcome State Fault Refusal :=
  let f := s.fetchInstr
  exec f.1 f.2

/-- The state with the instruction of a table row's bits placed where `step` fetches next (log 5). -/
def State.withFetchWord (s : State) (nbits w : Nat) : State :=
  let t := tableBytes nbits w
  s.placeBytes t.1 t.2.1 t.2.2

end Sys2Proof.Machine
end

