-- ==== Sys2Proof/Machine/Cycles.lean ====
section
/-! DEFINITION. The documented cycle counts (40_dispatch.md R105, R106), written from the maps. The meanings take their
counts from the instruction rules; that the two agree is a claim. -/

namespace Sys2Proof.Machine

/-- An entry of R105 with one count. -/
def always (k : Nat) : Nat × Nat := (k, k)

/-- An entry of R105 for a byte without a count: an unknown opcode. -/
def noCount : Nat × Nat := (0, 0)

/-- The rows of R105 by `op[7:4]`, each by `op[3:0]`; `(a, b)` is the map's `a/b`, not taken and taken. The entry of 0xCB
is the prefix's own 0. -/
def cycleRow (hi : Nat) : List (Nat × Nat) :=
  match hi with
  | 0 => [always 4, always 12, always 8, always 8, always 4, always 4, always 8, always 4,
      always 20, always 8, always 8, always 8, always 4, always 4, always 8, always 4]
  | 1 => [always 4, always 12, always 8, always 8, always 4, always 4, always 8, always 4,
      always 12, always 8, always 8, always 8, always 4, always 4, always 8, always 4]
  | 2 => [(8, 12), always 12, always 8, always 8, always 4, always 4, always 8, always 4,
      (8, 12), always 8, always 8, always 8, always 4, always 4, always 8, always 4]
  | 3 => [(8, 12), always 12, always 8, always 8, always 12, always 12, always 12, always 4,
      (8, 12), always 8, always 8, always 8, always 4, always 4, always 8, always 4]
  | 4 => [always 4, always 4, always 4, always 4, always 4, always 4, always 8, always 4,
      always 4, always 4, always 4, always 4, always 4, always 4, always 8, always 4]
  | 5 => [always 4, always 4, always 4, always 4, always 4, always 4, always 8, always 4,
      always 4, always 4, always 4, always 4, always 4, always 4, always 8, always 4]
  | 6 => [always 4, always 4, always 4, always 4, always 4, always 4, always 8, always 4,
      always 4, always 4, always 4, always 4, always 4, always 4, always 8, always 4]
  | 7 => [always 8, always 8, always 8, always 8, always 8, always 8, always 4, always 8,
      always 4, always 4, always 4, always 4, always 4, always 4, always 8, always 4]
  | 8 => [always 4, always 4, always 4, always 4, always 4, always 4, always 8, always 4,
      always 4, always 4, always 4, always 4, always 4, always 4, always 8, always 4]
  | 9 => [always 4, always 4, always 4, always 4, always 4, always 4, always 8, always 4,
      always 4, always 4, always 4, always 4, always 4, always 4, always 8, always 4]
  | 10 => [always 4, always 4, always 4, always 4, always 4, always 4, always 8, always 4,
      always 4, always 4, always 4, always 4, always 4, always 4, always 8, always 4]
  | 11 => [always 4, always 4, always 4, always 4, always 4, always 4, always 8, always 4,
      always 4, always 4, always 4, always 4, always 4, always 4, always 8, always 4]
  | 12 => [(8, 20), always 12, (12, 16), always 16, (12, 24), always 16, always 8, always 16,
      (8, 20), always 16, (12, 16), always 0, (12, 24), always 24, always 8, always 16]
  | 13 => [(8, 20), always 12, (12, 16), noCount, (12, 24), always 16, always 8, always 16,
      (8, 20), always 16, (12, 16), noCount, (12, 24), noCount, always 8, always 16]
  | 14 => [always 12, always 12, always 8, noCount, noCount, always 16, always 8, always 16,
      always 16, always 4, always 16, noCount, noCount, noCount, always 8, always 16]
  | _ => [always 12, always 12, always 8, always 4, noCount, always 16, always 8, always 16,
      always 12, always 8, always 16, always 4, noCount, noCount, always 8, always 16]

/-- The entry of an opcode in R105. -/
def primaryCycles (op : Byte) : Nat × Nat := (cycleRow (field op 4 4)).getD (field op 0 4) noCount

/-- The CB table's count (R106). -/
def cbCycles (cb : Byte) : Nat :=
  if field cb 0 3 = 6 then (if field cb 6 2 = 1 then 12 else 16) else 8

/-- The count the maps give the step that fetches `op` and, for 0xCB, `cb`, when the condition that `op[4:3]` names holds
or not (R105, R106, R107). -/
def documentedCount (op cb : Byte) (taken : Bool) : Nat :=
  (if taken then (primaryCycles op).2 else (primaryCycles op).1) + (if op = 0xCB then cbCycles cb else 0)

end Sys2Proof.Machine
end

