-- ==== Sys2Proof/Safety.lean ====
section
/-! DEFINITION. The terms the claims use: the invariant of every run, what the host can observe (10_state.md R43), and the
frame, the access record and the count of one instruction. -/

namespace Sys2Proof.Machine

/-! ## Safe states and runs -/

/-- Every reachable state is one of these: memory in its canonical form, F[3:0] = 0 (R24), the accumulator cleared
between steps (R39). -/
def State.Inv (s : State) : Prop := s.mem.wf = true ∧ s.f &&& 0x0F = 0 ∧ s.extra = 0

/-- A step is safe when it ends in a next state: an unknown opcode ends a run for good (60_exceptions.md R215). -/
def Safe (s : State) : Prop := ∃ t, step s = .next t

/-! ## Observation -/

/-- The registers the host observes (R43). -/
inductive Reg where
  | a | f | b | c | d | e | h | l | sp | pc | ime
  deriving DecidableEq, Repr

/-- The contents of a register, as a number of 16 bits. -/
def State.reg (r : Reg) (s : State) : Word :=
  match r with
  | .a => zext16 s.a
  | .f => zext16 s.f
  | .b => zext16 s.b
  | .c => zext16 s.c
  | .d => zext16 s.d
  | .e => zext16 s.e
  | .h => zext16 s.h
  | .l => zext16 s.l
  | .sp => s.sp
  | .pc => s.pc
  | .ime => BitVec.ofNat 16 s.ime.toNat

/-- What the bus answers to a read of `b` made just after one of `a`: with the MMU, its byte at `b`. -/
def State.replyAfter (a b : Word) (s : State) : Byte := (s.memRead a).2.reply b

/-- The bus after these accesses, in order. -/
def Backend.afterAll (bus : Backend) : List BusAccess → Backend
  | [] => bus
  | x :: xs => (bus.after x).afterAll xs

/-- The same CPU on another bus, with the MMU's bytes given. -/
def State.onBus (mem : Memory) (bus : Backend) (s : State) : State := { s with mem := mem, backend := bus }

/-- The bytes that the reads among these accesses gave, in order. -/
def readBytes : List BusAccess → List Byte
  | [] => []
  | .read _ v :: xs => v :: readBytes xs
  | .write _ _ :: xs => readBytes xs

/-- The value of an r8 operand (R31): a register, or the byte the bus answers at HL. -/
def State.r8 (r : R8) (s : State) : Byte :=
  match r with
  | .b => s.b
  | .c => s.c
  | .d => s.d
  | .e => s.e
  | .h => s.h
  | .l => s.l
  | .atHL => s.reply s.hl
  | .a => s.a

/-! ## One instruction's effects -/

end Sys2Proof.Machine

namespace Sys2Proof

/-- The register an r8 destination writes; none for the byte at HL. -/
def R8.regs (r : R8) : List Machine.Reg :=
  match r with
  | .b => [.b]
  | .c => [.c]
  | .d => [.d]
  | .e => [.e]
  | .h => [.h]
  | .l => [.l]
  | .atHL => []
  | .a => [.a]

/-- The registers a pair or SP is made of (R29, R32). -/
def R16.regs (p : R16) : List Machine.Reg :=
  match p with
  | .bc => [.b, .c]
  | .de => [.d, .e]
  | .hl => [.h, .l]
  | .sp => [.sp]

/-- The registers a stack pair is made of (R29, R30). -/
def R16s.regs (q : R16s) : List Machine.Reg :=
  match q with
  | .bc => [.b, .c]
  | .de => [.d, .e]
  | .hl => [.h, .l]
  | .af => [.a, .f]

end Sys2Proof

namespace Sys2Proof.Machine

/-- The address an r8 destination stores to: HL for index 6, else none. -/
def State.addrs (r : R8) (s : State) : List Word := if r = .atHL then [s.hl] else []

/-- The data read an r8 source makes (20_memory.md R68). -/
def State.reads (r : R8) (s : State) : List BusAccess := if r = .atHL then [.read s.hl (s.reply s.hl)] else []

/-- The data write an r8 destination makes (R68). -/
def State.writes (r : R8) (v : Byte) (s : State) : List BusAccess := if r = .atHL then [.write s.hl v] else []

/-- What the MMU's byte at an address is after a bus write of `v` to it: `v` in a storing region of the MMU (R58), the old
byte elsewhere, and where the bus is not the MMU (92_eei_decisions.md U7). -/
def State.afterWrite (a : Word) (v : Byte) (s : State) : Byte :=
  if s.backend = .mmu ∧ (regionOf a.toNat).stores = true then v else s.peek a

/-- `t` holds `v` in the r8 destination named in `s` (R31): for index 6 the address is the HL of `s`. -/
def Written (s t : State) (dst : R8) (v : Byte) : Prop :=
  if dst = .atHL then t.peek s.hl = s.afterWrite s.hl v else t.r8 dst = v

/-- Everything outside the named registers and addresses is as before: every register, and every byte of memory as the
MMU's read gives it. -/
def Frame (s t : State) (regs : List Reg) (addrs : List Word) : Prop :=
  (∀ r, r ∉ regs → t.reg r = s.reg r) ∧ ∀ x, x ∉ addrs → t.peek x = s.peek x

/-- The instruction returned `count` T-states on top of the accumulator, cleared it, and made exactly these data accesses
in this order; the bus, whichever it is, has had these and no others. -/
def Returns (s t : State) (count : Nat) (accesses : List BusAccess) : Prop :=
  t.cycles = count + s.extra ∧ t.extra = 0 ∧ t.bus = s.bus ++ accesses ∧ t.backend = s.backend.afterAll accesses

/-- F holds these four flags and a zero low nibble (R23, R27). -/
def FlagsAre (t : State) (z n h c : Bool) : Prop :=
  t.zf = z ∧ t.nf = n ∧ t.hf = h ∧ t.cf = c ∧ t.f &&& 0x0F = 0

/-- `signed8(v)` (00_scope.md R14). -/
def signed8 (v : Byte) : Int := if v.toNat < 0x80 then v.toNat else (v.toNat : Int) - 256

/-- The two forms of an ALU operation: the instruction, its operand, its bytes, its count and its data accesses
(42_alu.md R140). -/
def State.aluForms (k : AluOp) (r : R8) (n : Byte) (s : State) :
    List (Instr × Byte × List Byte × Nat × List BusAccess) :=
  [(.ofAluR k r, s.r8 r, [BitVec.ofNat 8 (0x80 + 8 * k.index + r.index)], if r = .atHL then 8 else 4, s.reads r),
   (.ofAluN k n, n, [BitVec.ofNat 8 (0xC6 + 8 * k.index), n], 8, [])]

/-- The byte at `base + k` for each byte of an instruction placed at `base`, as bus reads in fetch order. -/
def fetchReads : Word → List Byte → List BusAccess
  | _, [] => []
  | base, v :: bytes => .read base v :: fetchReads (base + 1) bytes

/-- The bus answers these bytes to reads from `base` on, one after the other: with the MMU, memory holds them there. -/
def State.holds (s : State) : Word → List Byte → Prop
  | _, [] => True
  | base, v :: bytes => s.reply base = v ∧ (s.memRead base).2.holds (base + 1) bytes

/-- The state after the fetches of an instruction of these bytes at PC (40_dispatch.md R100, R101, R108). -/
def State.fetched (bytes : List Byte) (s : State) : State :=
  { s with
    pc := s.pc + BitVec.ofNat 16 bytes.length
    backend := s.backend.afterAll (fetchReads s.pc bytes)
    extra := 0
    bus := fetchReads s.pc bytes }

end Sys2Proof.Machine
end

