-- ==== Sys2Proof/Certificates/Slice0/Obligations.lean ====
section
/-! DEFINITION. The statements for the provers. An instruction's statement says its bytes, that `exec` answers a next
state, the result and the flags, the frame (what stays as it was), the count and the data accesses. It holds for every bus:
what is read is what the bus answers (`State.reply`), and what is written to memory is said of the MMU's bytes
(`State.peek`), which a substituted bus leaves alone. `exec` runs in the state after the instruction's fetches, so its PC is
the next instruction's address; `StepRunsDecodedInstruction` ties it to `step`. -/

open Sys2Proof Sys2Proof.Machine

/-! ## Encoding -/

/-- R90, on words written out bit by bit. -/
def Obligations.WrittenOutWordsDecode : Prop :=
  decode [0b01000001] = .ok (.ld_b_c, []) ∧
  decode [0b00110110, 0x99] = .ok (.ld_atHL_n 0x99, []) ∧
  decode [0b00100001, 0x34, 0x12] = .ok (.ld_hl_nn 0x1234, []) ∧
  decode [0b01110110] = .ok (.halt, []) ∧
  decode [0b10011010] = .ok (.sbc_a_d, []) ∧
  decode [0b11111110, 0x2F] = .ok (.cp_n 0x2F, []) ∧
  decode [0b00011111] = .ok (.rra, []) ∧
  decode [0b11001011, 0b00110111] = .ok (.swap .a, []) ∧
  decode [0b11001011, 0b01111100] = .ok (.bit 7 .h, []) ∧
  decode [0b11010010, 0x00, 0x30] = .ok (.jp_nc_nn 0x3000, []) ∧
  decode [0b11110101] = .ok (.push_af, []) ∧
  decode [0b00010000, 0xD3] = .ok (.stop 0xD3, []) ∧
  decode [0b11010011] = .ok (.unknown 0xD3, [])

/-- Decoding the bytes of a well-formed instruction gives it back, with every operand, and leaves the bytes after it. -/
def Obligations.DecodeEncodeRoundTrip : Prop :=
  ∀ (i : Instr) (rest : List Byte), i.WellFormed = true → decode (encode i ++ rest) = .ok (i, rest)

/-- Each word has one meaning: the bytes a decoded instruction was read from are its encoding. -/
def Obligations.EncodeDecodeRoundTrip : Prop :=
  ∀ (bytes rest : List Byte) (i : Instr), decode bytes = .ok (i, rest) →
    i.WellFormed = true ∧ encode i ++ rest = bytes

/-- R92: every byte after 0xCB has an instruction of the CB table, of two bytes, and none is unknown. -/
def Obligations.EveryCbByteIsDefined : Prop :=
  ∀ (cb : Byte) (rest : List Byte), ∃ i, decode (0xCB :: cb :: rest) = .ok (i, rest) ∧ (∀ op, i ≠ .unknown op) ∧
    (cb.toNat ≤ 0x3F → ∃ t r, i = .ofShift t r) ∧
    (0x40 ≤ cb.toNat → (∃ k r, i = .bit k r) ∨ (∃ k r, i = .res k r) ∨ ∃ k r, i = .set k r)

/-! ## The step -/

/-- A step runs the instruction whose bytes the bus answers from PC on (with the MMU, those that memory holds there), in
the state after its fetches. That the handler runs after all of them is log 24, their order the spec's own choice (D5, log
15), and so is the wrap of PC over them (D4, log 14). -/
def Obligations.StepRunsDecodedInstruction : Prop :=
  ∀ (i : Instr) (s : State), i.WellFormed = true → s.holds s.pc (encode i) →
    step s = exec i (s.fetched (encode i))

/-- R213, and that nothing else stops a step (R216 to R218, the spec's own inference): it faults on the eleven bytes, with
the byte and its address, and answers a next state on every other. That the outcome is this fault is the spec's own choice
(D11, log 19). -/
def Obligations.OnlyUnknownOpcodesStopAStep : Prop :=
  ∀ s : State,
    (s.reply s.pc ∈ [0xD3, 0xDB, 0xDD, 0xE3, 0xE4, 0xEB, 0xEC, 0xED, 0xF4, 0xFC, 0xFD] →
      step s = .fault (.unknownOpcode (s.reply s.pc) s.pc)) ∧
    (s.reply s.pc ∉ [0xD3, 0xDB, 0xDD, 0xE3, 0xE4, 0xEB, 0xEC, 0xED, 0xF4, 0xFC, 0xFD] →
      ∃ t, step s = .next t)

/-- Every step keeps the invariant: memory canonical, F[3:0] = 0, the accumulator cleared. -/
def Obligations.StepKeepsInvariant : Prop :=
  ∀ s t : State, s.Inv → step s = .next t → t.Inv

/-- Construction meets the invariant, whatever image, registers and bus the host hands over, and so does `State.reset`. The
mask on the host's F is the model's choice (log 7), and so are B to L of `State.reset` (log 4). -/
def Obligations.ConstructionMeetsInvariant : Prop :=
  State.reset.Inv ∧
  ∀ (romImage : List Byte) (init : Config.InitRegs) (bus : Backend), (State.construct romImage init bus).Inv

/-- R44 and R235, for every image, every bus and every value of the open `initBCDEHL` (D2): the bus is the MMU where the
host names none. `State.reset` is one of these machines, with the MMU, an empty image (log 5) and the model's own B to L
(log 4). -/
def Obligations.PostBootRegisters : Prop :=
  (∀ (romImage : List Byte) (b c d e h l : Byte) (bus : Backend),
    let init : Config.InitRegs := { b := b, c := c, d := d, e := e, h := h, l := l }
    let s := State.construct romImage init bus
    s.a = 0x01 ∧ s.f = 0xB0 ∧ s.b = b ∧ s.c = c ∧ s.d = d ∧ s.e = e ∧ s.h = h ∧ s.l = l ∧
      s.sp = 0xFFFE ∧ s.pc = 0x0100 ∧ s.ime = false ∧ s.extra = 0 ∧ s.backend = bus ∧
      (State.construct romImage init).backend = .mmu) ∧
  ∃ b c d e h l : Byte, State.reset = State.construct [] { b := b, c := c, d := d, e := e, h := h, l := l }

/-- R59 with D3: memory after construction is the image's first 32768 bytes in ROM and zero elsewhere, read through the
MMU (Echo and Unusable read 0xFF). -/
def Obligations.ConstructionLoadsRomImage : Prop :=
  ∀ (romImage : List Byte) (init : Config.InitRegs) (a : Word),
    (State.construct romImage init).reply a =
      if a.toNat < 0x8000 then romImage.getD a.toNat 0x00
      else if (regionOf a.toNat).readsFF then 0xFF else 0x00

/-- R105 to R107: the count a step returns is the one the maps give its opcode (and CB byte), taken or not taken, and is
a positive multiple of 4. DAA's 4 is the spec's own choice (D7, log 16). -/
def Obligations.StepReturnsDocumentedCount : Prop :=
  ∀ s t : State, step s = .next t →
    t.cycles = documentedCount (s.reply s.pc) (s.replyAfter s.pc (s.pc + 1))
      (s.cond (.ofIndex (field (s.reply s.pc) 3 2))) ∧
    t.cycles % 4 = 0 ∧ 0 < t.cycles

/-- R8, R68, R70 and R113: the core is agnostic to concrete backends. A step leaves the bus, whichever it is, as it was but
for the accesses the step made, in their order, and with a substituted bus it leaves the MMU's bytes alone. A step of the
same CPU on a substituted bus that answers the same bytes gives the same registers, count and accesses; that bus has then
answered these bytes and has had these accesses. The record of the accesses is the model's field (log 2), a substituted bus
as plain data the model's own form (log 28), and that there are no other accesses the spec's own choice (D6, log 15). -/
def Obligations.StepIsAgnosticToTheBackend : Prop :=
  ∀ s t : State, step s = .next t →
    t.backend = s.backend.afterAll t.bus ∧ (s.backend ≠ .mmu → t.mem = s.mem) ∧
    ∀ (mem : Memory) (replies : List Byte) (past : List BusAccess),
      step (s.onBus mem (.substituted (readBytes t.bus ++ replies) past)) =
        .next (t.onBus mem (.substituted replies (past ++ t.bus)))

/-! ## Memory -/

/-- R47: the partition, row by row, and its two columns: the two regions that the MMU reads as 0xFF, and which regions it
stores. -/
def Obligations.AddressMapHasTenRegions : Prop :=
  ∀ a : Word,
    (regionOf a.toNat = .rom ↔ a.toNat ≤ 0x7FFF) ∧
    (regionOf a.toNat = .vram ↔ 0x8000 ≤ a.toNat ∧ a.toNat ≤ 0x9FFF) ∧
    (regionOf a.toNat = .externalRam ↔ 0xA000 ≤ a.toNat ∧ a.toNat ≤ 0xBFFF) ∧
    (regionOf a.toNat = .workRam ↔ 0xC000 ≤ a.toNat ∧ a.toNat ≤ 0xDFFF) ∧
    (regionOf a.toNat = .echo ↔ 0xE000 ≤ a.toNat ∧ a.toNat ≤ 0xFDFF) ∧
    (regionOf a.toNat = .oam ↔ 0xFE00 ≤ a.toNat ∧ a.toNat ≤ 0xFE9F) ∧
    (regionOf a.toNat = .unusable ↔ 0xFEA0 ≤ a.toNat ∧ a.toNat ≤ 0xFEFF) ∧
    (regionOf a.toNat = .io ↔ 0xFF00 ≤ a.toNat ∧ a.toNat ≤ 0xFF7F) ∧
    (regionOf a.toNat = .hram ↔ 0xFF80 ≤ a.toNat ∧ a.toNat ≤ 0xFFFE) ∧
    (regionOf a.toNat = .ie ↔ a.toNat = 0xFFFF) ∧
    (∀ s : State, s.backend = .mmu →
      s.reply a = if regionOf a.toNat ∈ [.echo, .unusable] then 0xFF else s.mem.get a.toNat) ∧
    ∀ (s : State) (v : Byte), s.backend = .mmu →
      (s.memWrite a v).mem.get a.toNat =
        if regionOf a.toNat ∈ [.rom, .echo, .unusable] then s.mem.get a.toNat else v

/-- R49, R50, R51, R53, R55, R56 and R57, of the MMU: a storing region reads back the byte written, and nothing else
changes. R54, and the write half of R48: a write to Unusable or ROM changes no byte, and Unusable reads 0xFF. -/
def Obligations.WritesStoreOrAreDiscarded : Prop :=
  ∀ (s : State) (a : Word) (v : Byte), s.backend = .mmu →
    (regionOf a.toNat ∈ [.vram, .externalRam, .workRam, .oam, .io, .hram, .ie] →
      (s.memWrite a v).reply a = v ∧ ∀ x, x ≠ a → (s.memWrite a v).reply x = s.reply x) ∧
    (regionOf a.toNat ∈ [.rom, .unusable] → ∀ x, (s.memWrite a v).reply x = s.reply x) ∧
    (regionOf a.toNat = .unusable → s.reply a = 0xFF)

/-- A step changes a byte of the MMU only where the MMU is the bus and it made a write there, and only in a storing region
(R58, R68). That the bus record
holds every write rests on the spec's own choice (D6) and on the model's field for it (log 2). -/
def Obligations.StepChangesOnlyWhatItWrites : Prop :=
  ∀ (s t : State) (x : Word), step s = .next t → t.peek x ≠ s.peek x →
    s.backend = .mmu ∧ (∃ v, BusAccess.write x v ∈ t.bus) ∧ (regionOf x.toNat).stores = true

/-- R48 over every instruction: no step changes a byte of ROM, and Echo and Unusable read 0xFF before and after. Echo is
the spec's own choice (D18, log 13). -/
def Obligations.StepsNeverChangeRomEchoUnusable : Prop :=
  ∀ s t : State, step s = .next t → ∀ a : Word,
    (a.toNat < 0x8000 → t.peek a = s.peek a) ∧
    (regionOf a.toNat ∈ [.echo, .unusable] → s.peek a = 0xFF ∧ t.peek a = 0xFF)

/-- R64: in storing regions of the MMU a push then a pop gives the value and SP back. -/
def Obligations.PushThenPopRestores : Prop :=
  ∀ (s : State) (v : Word), s.backend = .mmu →
    (regionOf (s.sp - 1).toNat).stores = true → (regionOf (s.sp - 2).toNat).stores = true →
    (s.push16 v).pop16.1 = v ∧ (s.push16 v).pop16.2.sp = s.sp

/-- R201: a CALL or RST, then a RET in the callee's state, comes back to the instruction after it with SP restored, when
both stack bytes are in storing regions of the MMU. -/
def Obligations.CallThenRetReturns : Prop :=
  ∀ (s : State) (nn : Word) (t : Fin 8) (i : Instr), i ∈ [.call_nn nn, .ofRst t] → s.backend = .mmu →
    (regionOf (s.sp - 1).toNat).stores = true → (regionOf (s.sp - 2).toNat).stores = true →
    ∃ s1 s2, exec i s = .next s1 ∧ exec .ret s1 = .next s2 ∧ s2.pc = s.pc ∧ s2.sp = s.sp

/-- R29, R30, R34: the pairs are views of their registers; writing a pair and reading it gives the value, with F's low
nibble masked for AF. -/
def Obligations.PairsAreViews : Prop :=
  ∀ (s : State) (p : R16) (q : R16s) (v : Word),
    (s.bc = s.b ++ s.c ∧ s.de = s.d ++ s.e ∧ s.hl = s.h ++ s.l ∧ s.af = s.a ++ s.f) ∧
    (s.writeR16 p v).readR16 p = v ∧ Frame s (s.writeR16 p v) p.regs [] ∧
    (s.writeR16s q v).readR16s q = (if q = .af then v &&& 0xFFF0 else v) ∧ Frame s (s.writeR16s q v) q.regs []

/-! ## The interrupt-enable latch -/

/-- R211: only DI, EI and RETI change IME. -/
def Obligations.OnlyDiEiRetiWriteIME : Prop :=
  ∀ (i : Instr) (s t : State), exec i s = .next t →
    (i = .di → t.ime = false) ∧ (i = .ei ∨ i = .reti → t.ime = true) ∧
    (i ≠ .di → i ≠ .ei → i ≠ .reti → t.ime = s.ime)

/-- R210 with D12: nothing in a step depends on IME. Two states that differ in IME alone step to states that differ in
IME alone. -/
def Obligations.NothingDependsOnIME : Prop :=
  ∀ (s t : State) (v : Bool), step s = .next t →
    ∃ t', step (s.setIME v) = .next t' ∧ t'.setIME false = t.setIME false

/-! ## Loads, stores and stack transfers -/

/-- R115. The slot of LD (HL),(HL) is HALT (R99), which `NoEffectInstructions` states. -/
def Obligations.LdRegRegCopies : Prop :=
  ∀ (dst src : R8) (s : State), ¬(dst = .atHL ∧ src = .atHL) →
    encode (.ofLdRR dst src) = [BitVec.ofNat 8 (0x40 + 8 * dst.index + src.index)] ∧
    ∃ t, exec (.ofLdRR dst src) s = .next t ∧ Written s t dst (s.r8 src) ∧ Frame s t dst.regs (s.addrs dst) ∧
      Returns s t (if dst = .atHL ∨ src = .atHL then 8 else 4) (s.reads src ++ s.writes dst (s.r8 src))

/-- R116. -/
def Obligations.LdRegImmediateLoads : Prop :=
  ∀ (dst : R8) (n : Byte) (s : State),
    encode (.ofLdRN dst n) = [BitVec.ofNat 8 (0x06 + 8 * dst.index), n] ∧
    ∃ t, exec (.ofLdRN dst n) s = .next t ∧ Written s t dst n ∧ Frame s t dst.regs (s.addrs dst) ∧
      Returns s t (if dst = .atHL then 12 else 8) (s.writes dst n)

/-- R117, R118, R125, R127, R129: one byte, A, at the address the form gives; no register and no flag. -/
def Obligations.StoresOfAWriteOneByte : Prop :=
  ∀ (s : State) (n : Byte) (nn : Word) (i : Instr) (bytes : List Byte) (addr : Word) (count : Nat),
    (i, bytes, addr, count) ∈
      [(.ld_atBC_a, [0x02], s.bc, 8), (.ld_atDE_a, [0x12], s.de, 8), (.ld_atNn_a nn, [0xEA, lo8 nn, hi8 nn], nn, 16),
       (.ldh_atN_a n, [0xE0, n], 0xFF00 + zext16 n, 12), (.ld_atC_a, [0xE2], 0xFF00 + zext16 s.c, 8)] →
    encode i = bytes ∧
    ∃ t, exec i s = .next t ∧ t.peek addr = s.afterWrite addr s.a ∧ Frame s t [] [addr] ∧
      Returns s t count [.write addr s.a]

/-- R119, R120, R126, R128, R130: A from the address the form gives; nothing else. -/
def Obligations.LoadsOfAReadOneByte : Prop :=
  ∀ (s : State) (n : Byte) (nn : Word) (i : Instr) (bytes : List Byte) (addr : Word) (count : Nat),
    (i, bytes, addr, count) ∈
      [(.ld_a_atBC, [0x0A], s.bc, 8), (.ld_a_atDE, [0x1A], s.de, 8), (.ld_a_atNn nn, [0xFA, lo8 nn, hi8 nn], nn, 16),
       (.ldh_a_atN n, [0xF0, n], 0xFF00 + zext16 n, 12), (.ld_a_atC, [0xF2], 0xFF00 + zext16 s.c, 8)] →
    encode i = bytes ∧
    ∃ t, exec i s = .next t ∧ t.a = s.reply addr ∧ Frame s t [.a] [] ∧ Returns s t count [.read addr (s.reply addr)]

/-- R121 and R123: the store is at the old HL, and HL then moves by one, modulo 65536 (the wrap is the spec's own choice,
D4, log 14). -/
def Obligations.LdiLddStoreThenMoveHL : Prop :=
  ∀ (s : State) (i : Instr) (bytes : List Byte) (hl' : Nat),
    (i, bytes, hl') ∈
      [(.ldi_atHL_a, [0x22], (s.hl.toNat + 1) % 65536), (.ldd_atHL_a, [0x32], (s.hl.toNat + 65535) % 65536)] →
    encode i = bytes ∧
    ∃ t, exec i s = .next t ∧ t.hl.toNat = hl' ∧ t.peek s.hl = s.afterWrite s.hl s.a ∧
      Frame s t [.h, .l] [s.hl] ∧ Returns s t 8 [.write s.hl s.a]

/-- R122 and R124: the load is from the old HL, and HL then moves by one, modulo 65536 (D4, log 14). -/
def Obligations.LdiLddLoadThenMoveHL : Prop :=
  ∀ (s : State) (i : Instr) (bytes : List Byte) (hl' : Nat),
    (i, bytes, hl') ∈
      [(.ldi_a_atHL, [0x2A], (s.hl.toNat + 1) % 65536), (.ldd_a_atHL, [0x3A], (s.hl.toNat + 65535) % 65536)] →
    encode i = bytes ∧
    ∃ t, exec i s = .next t ∧ t.a = s.reply s.hl ∧ t.hl.toNat = hl' ∧ Frame s t [.a, .h, .l] [] ∧
      Returns s t 8 [.read s.hl (s.reply s.hl)]

/-- R131. -/
def Obligations.LdPairImmediateLoads : Prop :=
  ∀ (p : R16) (nn : Word) (s : State),
    encode (.ofLdR16 p nn) = [BitVec.ofNat 8 (0x01 + 16 * p.index), lo8 nn, hi8 nn] ∧
    ∃ t, exec (.ofLdR16 p nn) s = .next t ∧ t.readR16 p = nn ∧ Frame s t p.regs [] ∧ Returns s t 12 []

/-- R132: SP little-endian at nn and nn + 1; the wrap of nn + 1 and the order of the two writes are the spec's own choice
(D4, D5, logs 14 and 15). -/
def Obligations.LdNnSPStoresLittleEndian : Prop :=
  ∀ (nn : Word) (s : State),
    encode (.ld_atNn_sp nn) = [0x08, lo8 nn, hi8 nn] ∧
    ∃ t, exec (.ld_atNn_sp nn) s = .next t ∧ t.peek nn = s.afterWrite nn (lo8 s.sp) ∧
      t.peek (nn + 1) = s.afterWrite (nn + 1) (hi8 s.sp) ∧ Frame s t [] [nn, nn + 1] ∧
      Returns s t 20 [.write nn (lo8 s.sp), .write (nn + 1) (hi8 s.sp)]

/-- R133 and R134: LD SP,HL; and LD HL,SP+n, whose H and C are those of the raw unsigned byte. -/
def Obligations.LdSPHLAndLdHLSPOffset : Prop :=
  ∀ (n : Byte) (s : State),
    (encode .ld_sp_hl = [0xF9] ∧
      ∃ t, exec .ld_sp_hl s = .next t ∧ t.sp = s.hl ∧ Frame s t [.sp] [] ∧ Returns s t 8 []) ∧
    (encode (.ld_hl_sp_n n) = [0xF8, n] ∧
      ∃ t, exec (.ld_hl_sp_n n) s = .next t ∧ (t.hl.toNat : Int) = (s.sp.toNat + signed8 n) % 65536 ∧
        FlagsAre t false false (decide ((s.sp.toNat % 16) + (n.toNat % 16) > 0x0F))
          (decide ((s.sp.toNat % 256) + n.toNat > 0xFF)) ∧
        Frame s t [.h, .l, .f] [] ∧ Returns s t 12 [])

/-- R135: the high byte at SP - 1, then the low byte at SP - 2. PUSH AF stores F with a zero low nibble, where F has one
(R24). -/
def Obligations.PushStoresPair : Prop :=
  ∀ (q : R16s) (s : State),
    encode (.ofPush q) = [BitVec.ofNat 8 (0xC5 + 16 * q.index)] ∧
    ∃ t, exec (.ofPush q) s = .next t ∧ t.sp = s.sp - 2 ∧
      t.peek (s.sp - 1) = s.afterWrite (s.sp - 1) (hi8 (s.readR16s q)) ∧
      t.peek (s.sp - 2) = s.afterWrite (s.sp - 2) (lo8 (s.readR16s q)) ∧
      Frame s t [.sp] [s.sp - 1, s.sp - 2] ∧
      Returns s t 16 [.write (s.sp - 1) (hi8 (s.readR16s q)), .write (s.sp - 2) (lo8 (s.readR16s q))] ∧
      (q = .af → s.f &&& 0x0F = 0 → lo8 (s.readR16s q) = s.f ∧ lo8 (s.readR16s q) &&& 0x0F = 0)

/-- R136 and R137: the low byte at SP, the high byte at SP + 1; POP AF masks F's low nibble. -/
def Obligations.PopLoadsPair : Prop :=
  ∀ (q : R16s) (s : State),
    encode (.ofPop q) = [BitVec.ofNat 8 (0xC1 + 16 * q.index)] ∧
    ∃ t, exec (.ofPop q) s = .next t ∧ t.sp = s.sp + 2 ∧
      (q ≠ .af → t.readR16s q = s.replyAfter s.sp (s.sp + 1) ++ s.reply s.sp) ∧
      (q = .af → t.a = s.replyAfter s.sp (s.sp + 1) ∧ t.f = s.reply s.sp &&& 0xF0) ∧
      Frame s t (.sp :: q.regs) [] ∧
      Returns s t 12 [.read s.sp (s.reply s.sp), .read (s.sp + 1) (s.replyAfter s.sp (s.sp + 1))]

/-! ## Arithmetic and logic -/

/-- R141 to R144: ADD and ADC, both forms. -/
def Obligations.AddAdcCompute : Prop :=
  ∀ (s : State) (r : R8) (n : Byte) (i : Instr) (b : Byte) (bytes : List Byte) (count : Nat)
    (accesses : List BusAccess) (k : AluOp) (cin : Nat),
    (k, cin) ∈ [(AluOp.add, 0), (.adc, if s.cf then 1 else 0)] → (i, b, bytes, count, accesses) ∈ s.aluForms k r n →
    encode i = bytes ∧
    ∃ t, exec i s = .next t ∧ t.a.toNat = (s.a.toNat + b.toNat + cin) % 256 ∧
      FlagsAre t (decide (t.a = 0)) false (decide (s.a.toNat % 16 + b.toNat % 16 + cin > 0xF))
        (decide (s.a.toNat + b.toNat + cin > 0xFF)) ∧
      Frame s t [.a, .f] [] ∧ Returns s t count accesses

/-- R145 to R148: SUB and SBC, both forms. -/
def Obligations.SubSbcCompute : Prop :=
  ∀ (s : State) (r : R8) (n : Byte) (i : Instr) (b : Byte) (bytes : List Byte) (count : Nat)
    (accesses : List BusAccess) (k : AluOp) (cin : Nat),
    (k, cin) ∈ [(AluOp.sub, 0), (.sbc, if s.cf then 1 else 0)] → (i, b, bytes, count, accesses) ∈ s.aluForms k r n →
    encode i = bytes ∧
    ∃ t, exec i s = .next t ∧ (t.a.toNat : Int) = ((s.a.toNat : Int) - b.toNat - cin) % 256 ∧
      FlagsAre t (decide (t.a = 0)) true (decide (s.a.toNat % 16 < b.toNat % 16 + cin))
        (decide (s.a.toNat < b.toNat + cin)) ∧
      Frame s t [.a, .f] [] ∧ Returns s t count accesses

/-- R149 to R154: AND, XOR and OR, both forms. -/
def Obligations.LogicComputes : Prop :=
  ∀ (s : State) (r : R8) (n : Byte) (i : Instr) (b : Byte) (bytes : List Byte) (count : Nat)
    (accesses : List BusAccess) (k : AluOp) (result : Byte) (h : Bool),
    (k, result, h) ∈ [(AluOp.and, s.a &&& b, true), (.xor, s.a ^^^ b, false), (.or, s.a ||| b, false)] →
    (i, b, bytes, count, accesses) ∈ s.aluForms k r n →
    encode i = bytes ∧
    ∃ t, exec i s = .next t ∧ t.a = result ∧ FlagsAre t (decide (result = 0)) false h false ∧
      Frame s t [.a, .f] [] ∧ Returns s t count accesses

/-- R155 and R156: CP changes the flags alone. -/
def Obligations.CompareChangesFlagsOnly : Prop :=
  ∀ (s : State) (r : R8) (n : Byte) (i : Instr) (b : Byte) (bytes : List Byte) (count : Nat)
    (accesses : List BusAccess), (i, b, bytes, count, accesses) ∈ s.aluForms .cp r n →
    encode i = bytes ∧
    ∃ t, exec i s = .next t ∧
      FlagsAre t (decide (s.a = b)) true (decide (s.a.toNat % 16 < b.toNat % 16)) (decide (s.a.toNat < b.toNat)) ∧
      Frame s t [.f] [] ∧ Returns s t count accesses

/-- R157: C is preserved. That Z is set by a zero result is the spec's own choice (D9, log 16), and that (HL) is read and
then written even where the write is discarded is D19 (log 15). -/
def Obligations.IncRegIncrements : Prop :=
  ∀ (r : R8) (s : State),
    encode (.ofIncR r) = [BitVec.ofNat 8 (0x04 + 8 * r.index)] ∧
    ∃ t, exec (.ofIncR r) s = .next t ∧ Written s t r (s.r8 r + 1) ∧
      FlagsAre t (decide (s.r8 r = 0xFF)) false (decide ((s.r8 r).toNat % 16 = 0xF)) s.cf ∧
      Frame s t (.f :: r.regs) (s.addrs r) ∧
      Returns s t (if r = .atHL then 12 else 4) (s.reads r ++ s.writes r (s.r8 r + 1))

/-- R158: C is preserved; Z by D9 (log 16), the two accesses by D19 (log 15). -/
def Obligations.DecRegDecrements : Prop :=
  ∀ (r : R8) (s : State),
    encode (.ofDecR r) = [BitVec.ofNat 8 (0x05 + 8 * r.index)] ∧
    ∃ t, exec (.ofDecR r) s = .next t ∧ Written s t r (s.r8 r - 1) ∧
      FlagsAre t (decide (s.r8 r = 0x01)) true (decide ((s.r8 r).toNat % 16 = 0)) s.cf ∧
      Frame s t (.f :: r.regs) (s.addrs r) ∧
      Returns s t (if r = .atHL then 12 else 4) (s.reads r ++ s.writes r (s.r8 r - 1))

/-- R159 and R160: no flag and no memory; the wrap is the spec's own choice (D4, log 14). -/
def Obligations.IncDecPairTouchNoFlag : Prop :=
  ∀ (p : R16) (s : State) (i : Instr) (bytes : List Byte) (v : Nat),
    (i, bytes, v) ∈
      [(.ofIncRR p, [BitVec.ofNat 8 (0x03 + 16 * p.index)], ((s.readR16 p).toNat + 1) % 65536),
       (.ofDecRR p, [BitVec.ofNat 8 (0x0B + 16 * p.index)], ((s.readR16 p).toNat + 65535) % 65536)] →
    encode i = bytes ∧
    ∃ t, exec i s = .next t ∧ (t.readR16 p).toNat = v ∧ Frame s t p.regs [] ∧ Returns s t 8 []

/-- R161: Z is preserved, H is the carry out of bit 11. -/
def Obligations.AddHLPreservesZ : Prop :=
  ∀ (p : R16) (s : State),
    encode (.ofAddHL p) = [BitVec.ofNat 8 (0x09 + 16 * p.index)] ∧
    ∃ t, exec (.ofAddHL p) s = .next t ∧ t.hl.toNat = (s.hl.toNat + (s.readR16 p).toNat) % 65536 ∧
      FlagsAre t s.zf false (decide (s.hl.toNat % 4096 + (s.readR16 p).toNat % 4096 > 0x0FFF))
        (decide (s.hl.toNat + (s.readR16 p).toNat > 0xFFFF)) ∧
      Frame s t [.h, .l, .f] [] ∧ Returns s t 8 []

/-- R162: a signed sum with the flags of the raw unsigned byte. -/
def Obligations.AddSPOffset : Prop :=
  ∀ (n : Byte) (s : State),
    encode (.add_sp_n n) = [0xE8, n] ∧
    ∃ t, exec (.add_sp_n n) s = .next t ∧ (t.sp.toNat : Int) = (s.sp.toNat + signed8 n) % 65536 ∧
      FlagsAre t false false (decide ((s.sp.toNat % 16) + (n.toNat % 16) > 0x0F))
        (decide ((s.sp.toNat % 256) + n.toNat > 0xFF)) ∧
      Frame s t [.sp, .f] [] ∧ Returns s t 16 []

/-- R163: the correction for N = 0 and N = 1. That C stays as it was when N = 1 is the spec's own choice (D10), and so is
the count 4 (D7); log 16. -/
def Obligations.DaaAdjusts : Prop :=
  ∀ s : State,
    encode .daa = [0x27] ∧
    ∃ t, exec .daa s = .next t ∧
      (s.nf = false → ∀ low high : Nat,
        low = (if s.hf = true ∨ s.a.toNat % 16 > 9 then 0x06 else 0) →
        high = (if s.cf = true ∨ s.a.toNat > 0x99 then 0x60 else 0) →
        t.a.toNat = (s.a.toNat + low + high) % 256 ∧ FlagsAre t (decide (t.a = 0)) false false (decide (high = 0x60))) ∧
      (s.nf = true → ∀ low high : Nat,
        low = (if s.hf = true then 0x06 else 0) → high = (if s.cf = true then 0x60 else 0) →
        (t.a.toNat : Int) = ((s.a.toNat : Int) - low - high) % 256 ∧ FlagsAre t (decide (t.a = 0)) true false s.cf) ∧
      Frame s t [.a, .f] [] ∧ Returns s t 4 []

/-- R164, R165 and R166: CPL, SCF and CCF preserve Z. -/
def Obligations.CplScfCcfPreserveZ : Prop :=
  ∀ (s : State) (i : Instr) (bytes : List Byte) (a' n h c : Nat),
    (i, bytes, a', n, h, c) ∈
      [(.cpl, [0x2F], 0xFF - s.a.toNat, 1, 1, if s.cf then 1 else 0), (.scf, [0x37], s.a.toNat, 0, 0, 1),
       (.ccf, [0x3F], s.a.toNat, 0, 0, if s.cf then 0 else 1)] →
    encode i = bytes ∧
    ∃ t, exec i s = .next t ∧ t.a.toNat = a' ∧
      FlagsAre t s.zf (decide (n = 1)) (decide (h = 1)) (decide (c = 1)) ∧ Frame s t [.a, .f] [] ∧ Returns s t 4 []

/-! ## Rotates, shifts and bits -/

/-- R172 to R176: Z is forced to 0. The bit-level definitions are the spec's completion of the source (R170, D8, log 17). -/
def Obligations.AccumulatorRotatesForceZ : Prop :=
  ∀ (s : State) (i : Instr) (bytes : List Byte) (a' : Nat) (co : Bool),
    (i, bytes, a', co) ∈
      [(.rlca, [0x07], (2 * s.a.toNat) % 256 + s.a.toNat / 128, s.a.getLsbD 7),
       (.rrca, [0x0F], s.a.toNat / 2 + 128 * (s.a.toNat % 2), s.a.getLsbD 0),
       (.rla, [0x17], (2 * s.a.toNat) % 256 + s.cf.toNat, s.a.getLsbD 7),
       (.rra, [0x1F], s.a.toNat / 2 + 128 * s.cf.toNat, s.a.getLsbD 0)] →
    encode i = bytes ∧
    ∃ t, exec i s = .next t ∧ t.a.toNat = a' ∧ FlagsAre t false false false co ∧ Frame s t [.a, .f] [] ∧
      Returns s t 4 []

/-- R177 to R185: Z is the result's. The bit-level definitions are the spec's completion of the source (D8, log 17), the
two accesses of (HL) are D19 (log 15). -/
def Obligations.CbRotatesAndShifts : Prop :=
  ∀ (s : State) (r : R8) (i : Instr) (t3 v' : Nat) (co : Bool),
    let v := (s.r8 r).toNat
    (i, t3, v', co) ∈
      [(.rlc r, 0, (2 * v) % 256 + v / 128, (s.r8 r).getLsbD 7), (.rrc r, 1, v / 2 + 128 * (v % 2), (s.r8 r).getLsbD 0),
       (.rl r, 2, (2 * v) % 256 + s.cf.toNat, (s.r8 r).getLsbD 7),
       (.rr r, 3, v / 2 + 128 * s.cf.toNat, (s.r8 r).getLsbD 0), (.sla r, 4, (2 * v) % 256, (s.r8 r).getLsbD 7),
       (.sra r, 5, v / 2 + 128 * (v / 128), (s.r8 r).getLsbD 0), (.swap r, 6, 16 * (v % 16) + v / 16, false),
       (.srl r, 7, v / 2, (s.r8 r).getLsbD 0)] →
    encode i = [0xCB, BitVec.ofNat 8 (8 * t3 + r.index)] ∧
    ∃ t, exec i s = .next t ∧ v' < 256 ∧ Written s t r (BitVec.ofNat 8 v') ∧
      FlagsAre t (decide (v' = 0)) false false co ∧ Frame s t (.f :: r.regs) (s.addrs r) ∧
      Returns s t (if r = .atHL then 16 else 8) (s.reads r ++ s.writes r (BitVec.ofNat 8 v'))

/-- R186: BIT writes the flags alone and preserves C. -/
def Obligations.BitTestsOneBit : Prop :=
  ∀ (s : State) (k : Fin 8) (r : R8),
    encode (.bit k r) = [0xCB, BitVec.ofNat 8 (0x40 + 8 * k.val + r.index)] ∧
    ∃ t, exec (.bit k r) s = .next t ∧ FlagsAre t (!(s.r8 r).getLsbD k.val) false true s.cf ∧ Frame s t [.f] [] ∧
      Returns s t (if r = .atHL then 12 else 8) (s.reads r)

/-- R187 and R188: the one bit, and no flag. The two accesses of (HL) are D19 (log 15). -/
def Obligations.ResSetChangeOneBit : Prop :=
  ∀ (s : State) (k : Fin 8) (r : R8) (i : Instr) (base : Nat) (on : Bool),
    (i, base, on) ∈ [(.res k r, 0x80, false), (.set k r, 0xC0, true)] →
    encode i = [0xCB, BitVec.ofNat 8 (base + 8 * k.val + r.index)] ∧
    ∃ (t : State) (v : Byte), exec i s = .next t ∧ Written s t r v ∧
      (∀ j < 8, v.getLsbD j = if j = k.val then on else (s.r8 r).getLsbD j) ∧
      Frame s t r.regs (s.addrs r) ∧
      Returns s t (if r = .atHL then 16 else 8) (s.reads r ++ s.writes r v)

/-- R94 and R103: running the prefix with the byte after it is running that byte's entry of the CB table, which completes. -/
def Obligations.CbPrefixRunsCbTable : Prop :=
  ∀ (cb : Byte) (s : State),
    encode (.cbPrefix cb) = [0xCB, cb] ∧ exec (.cbPrefix cb) s = exec (decodeCb cb) s ∧
    ∃ t, exec (.cbPrefix cb) s = .next t ∧ t.cycles = cbCycles cb + s.extra ∧ t.pc = s.pc

/-! ## Control transfer -/

/-- R190 and R191. -/
def Obligations.JumpsSetPC : Prop :=
  ∀ (s : State) (nn : Word) (i : Instr) (bytes : List Byte) (target : Word) (count : Nat),
    (i, bytes, target, count) ∈ [(.jp_nn nn, [0xC3, lo8 nn, hi8 nn], nn, 16), (.jp_hl, [0xE9], s.hl, 4)] →
    encode i = bytes ∧
    ∃ t, exec i s = .next t ∧ t.pc = target ∧ Frame s t [.pc] [] ∧ Returns s t count []

/-- R192, with the four conditions of R81, taken and not taken. -/
def Obligations.ConditionalJump : Prop :=
  ∀ (s : State) (nn : Word) (cc : Cond) (holds : Bool),
    (cc, holds) ∈ [(Cond.nz, !s.zf), (.z, s.zf), (.nc, !s.cf), (.c, s.cf)] →
    encode (.ofJpCC cc nn) = [BitVec.ofNat 8 (0xC2 + 8 * cc.index), lo8 nn, hi8 nn] ∧
    ∃ t, exec (.ofJpCC cc nn) s = .next t ∧ t.pc = (if holds then nn else s.pc) ∧ Frame s t [.pc] [] ∧
      Returns s t (if holds then 16 else 12) []

/-- R193 and R194: relative to the next instruction (the spec's own choice, D22, log 18), modulo 65536 (D4, log 14). -/
def Obligations.RelativeJumps : Prop :=
  ∀ (s : State) (n : Byte) (i : Instr) (bytes : List Byte) (holds : Bool) (count : Nat),
    (i, bytes, holds, count) ∈
      [(.jr_n n, [0x18, n], true, 12), (.ofJrCC .nz n, [0x20, n], !s.zf, if s.zf then 8 else 12),
       (.ofJrCC .z n, [0x28, n], s.zf, if s.zf then 12 else 8),
       (.ofJrCC .nc n, [0x30, n], !s.cf, if s.cf then 8 else 12),
       (.ofJrCC .c n, [0x38, n], s.cf, if s.cf then 12 else 8)] →
    encode i = bytes ∧
    ∃ t, exec i s = .next t ∧
      (t.pc.toNat : Int) = (if holds then (s.pc.toNat + signed8 n) % 65536 else s.pc.toNat) ∧
      Frame s t [.pc] [] ∧ Returns s t count []

/-- R195: the return address is the one after the immediate. -/
def Obligations.CallPushesReturnAddress : Prop :=
  ∀ (s : State) (nn : Word),
    encode (.call_nn nn) = [0xCD, lo8 nn, hi8 nn] ∧
    ∃ t, exec (.call_nn nn) s = .next t ∧ t.pc = nn ∧ t.sp = s.sp - 2 ∧
      t.peek (s.sp - 1) = s.afterWrite (s.sp - 1) (hi8 s.pc) ∧
      t.peek (s.sp - 2) = s.afterWrite (s.sp - 2) (lo8 s.pc) ∧
      Frame s t [.pc, .sp] [s.sp - 1, s.sp - 2] ∧
      Returns s t 24 [.write (s.sp - 1) (hi8 s.pc), .write (s.sp - 2) (lo8 s.pc)]

/-- R196: taken it is a CALL; not taken it touches no stack. -/
def Obligations.ConditionalCall : Prop :=
  ∀ (s : State) (nn : Word) (cc : Cond) (holds : Bool),
    (cc, holds) ∈ [(Cond.nz, !s.zf), (.z, s.zf), (.nc, !s.cf), (.c, s.cf)] →
    encode (.ofCallCC cc nn) = [BitVec.ofNat 8 (0xC4 + 8 * cc.index), lo8 nn, hi8 nn] ∧
    ∃ t, exec (.ofCallCC cc nn) s = .next t ∧
      (holds = true → t.pc = nn ∧ t.sp = s.sp - 2 ∧
        t.peek (s.sp - 1) = s.afterWrite (s.sp - 1) (hi8 s.pc) ∧
        t.peek (s.sp - 2) = s.afterWrite (s.sp - 2) (lo8 s.pc) ∧
        Frame s t [.pc, .sp] [s.sp - 1, s.sp - 2] ∧
        Returns s t 24 [.write (s.sp - 1) (hi8 s.pc), .write (s.sp - 2) (lo8 s.pc)]) ∧
      (holds = false → Frame s t [] [] ∧ Returns s t 12 [])

/-- R197. -/
def Obligations.RetPopsPC : Prop :=
  ∀ s : State,
    encode .ret = [0xC9] ∧
    ∃ t, exec .ret s = .next t ∧ t.pc = s.replyAfter s.sp (s.sp + 1) ++ s.reply s.sp ∧ t.sp = s.sp + 2 ∧
      Frame s t [.pc, .sp] [] ∧
      Returns s t 16 [.read s.sp (s.reply s.sp), .read (s.sp + 1) (s.replyAfter s.sp (s.sp + 1))]

/-- R198: RET, and IME set in the same step (the spec's own choice, D21, log 12). -/
def Obligations.RetiPopsPCAndSetsIME : Prop :=
  ∀ s : State,
    encode .reti = [0xD9] ∧
    ∃ t, exec .reti s = .next t ∧ t.pc = s.replyAfter s.sp (s.sp + 1) ++ s.reply s.sp ∧ t.sp = s.sp + 2 ∧ t.ime = true ∧
      Frame s t [.pc, .sp, .ime] [] ∧
      Returns s t 16 [.read s.sp (s.reply s.sp), .read (s.sp + 1) (s.replyAfter s.sp (s.sp + 1))]

/-- R199. -/
def Obligations.ConditionalReturn : Prop :=
  ∀ (s : State) (cc : Cond) (holds : Bool),
    (cc, holds) ∈ [(Cond.nz, !s.zf), (.z, s.zf), (.nc, !s.cf), (.c, s.cf)] →
    encode (.ofRetCC cc) = [BitVec.ofNat 8 (0xC0 + 8 * cc.index)] ∧
    ∃ t, exec (.ofRetCC cc) s = .next t ∧
      (holds = true → t.pc = s.replyAfter s.sp (s.sp + 1) ++ s.reply s.sp ∧ t.sp = s.sp + 2 ∧ Frame s t [.pc, .sp] [] ∧
        Returns s t 20 [.read s.sp (s.reply s.sp), .read (s.sp + 1) (s.replyAfter s.sp (s.sp + 1))]) ∧
      (holds = false → Frame s t [] [] ∧ Returns s t 8 [])

/-- R200: the target is 8 * t. That the pushed PC is the address after the one-byte RST is the spec's own inference
([derived: from 40_dispatch.md rule R101], log 24). -/
def Obligations.RstCallsFixedAddress : Prop :=
  ∀ (s : State) (k : Fin 8),
    encode (.ofRst k) = [BitVec.ofNat 8 (0xC7 + 8 * k.val)] ∧
    ∃ t, exec (.ofRst k) s = .next t ∧ t.pc.toNat = 8 * k.val ∧ t.sp = s.sp - 2 ∧
      t.peek (s.sp - 1) = s.afterWrite (s.sp - 1) (hi8 s.pc) ∧
      t.peek (s.sp - 2) = s.afterWrite (s.sp - 2) (lo8 s.pc) ∧
      Frame s t [.pc, .sp] [s.sp - 1, s.sp - 2] ∧
      Returns s t 16 [.write (s.sp - 1) (hi8 s.pc), .write (s.sp - 2) (lo8 s.pc)]

/-! ## Latches and the fault -/

/-- R205, and R208 and R209 with the spec's own choices D17 and D16 (logs 10 and 11): NOP, HALT and STOP change nothing
after their fetches. -/
def Obligations.NoEffectInstructions : Prop :=
  ∀ (s : State) (x : Byte) (i : Instr) (bytes : List Byte),
    (i, bytes) ∈ [(.nop, [0x00]), (.ofLdRR .atHL .atHL, [0x76]), (.halt, [0x76]), (.stop x, [0x10, x])] →
    encode i = bytes ∧ ∃ t, exec i s = .next t ∧ Frame s t [] [] ∧ Returns s t 4 []

/-- R206 and R207: IME, and nothing else. That EI takes effect in its own step is the spec's own choice (D21, log 12). -/
def Obligations.DiEiWriteIMEOnly : Prop :=
  ∀ (s : State) (i : Instr) (bytes : List Byte) (v : Bool),
    (i, bytes, v) ∈ [(.di, [0xF3], false), (.ei, [0xFB], true)] →
    encode i = bytes ∧ ∃ t, exec i s = .next t ∧ t.ime = v ∧ Frame s t [.ime] [] ∧ Returns s t 4 []

/-- R213's fault, for the arm of the unknown opcodes, whatever byte the term holds: it ends in the fault with that byte and
the address before PC, where it was fetched. That this is the outcome, and that it carries that address, is the spec's own
choice (D11, log 19). -/
def Obligations.UnknownOpcodeFaults : Prop :=
  ∀ (s : State) (op : Byte), exec (.unknown op) s = .fault (.unknownOpcode op (s.pc - 1))
end

