-- ==== Sys2Proof/Laws/State.lean ====
section
/-! SUPPORT. One lemma for each field under each named update of `State`, true by `rfl`, so that no proof unfolds a record
update; then the same for the views that an update leaves alone. -/

namespace Sys2Proof.Machine

/-! ### `noteAccess` -/

@[simp] theorem State.noteAccess_a (s : State) (x : BusAccess) : (s.noteAccess x).a = s.a := rfl
@[simp] theorem State.noteAccess_f (s : State) (x : BusAccess) : (s.noteAccess x).f = s.f := rfl
@[simp] theorem State.noteAccess_b (s : State) (x : BusAccess) : (s.noteAccess x).b = s.b := rfl
@[simp] theorem State.noteAccess_c (s : State) (x : BusAccess) : (s.noteAccess x).c = s.c := rfl
@[simp] theorem State.noteAccess_d (s : State) (x : BusAccess) : (s.noteAccess x).d = s.d := rfl
@[simp] theorem State.noteAccess_e (s : State) (x : BusAccess) : (s.noteAccess x).e = s.e := rfl
@[simp] theorem State.noteAccess_h (s : State) (x : BusAccess) : (s.noteAccess x).h = s.h := rfl
@[simp] theorem State.noteAccess_l (s : State) (x : BusAccess) : (s.noteAccess x).l = s.l := rfl
@[simp] theorem State.noteAccess_sp (s : State) (x : BusAccess) : (s.noteAccess x).sp = s.sp := rfl
@[simp] theorem State.noteAccess_pc (s : State) (x : BusAccess) : (s.noteAccess x).pc = s.pc := rfl
@[simp] theorem State.noteAccess_ime (s : State) (x : BusAccess) : (s.noteAccess x).ime = s.ime := rfl
@[simp] theorem State.noteAccess_mem (s : State) (x : BusAccess) : (s.noteAccess x).mem = s.mem := rfl
@[simp] theorem State.noteAccess_backend (s : State) (x : BusAccess) : (s.noteAccess x).backend = s.backend.after x := rfl
@[simp] theorem State.noteAccess_extra (s : State) (x : BusAccess) : (s.noteAccess x).extra = s.extra := rfl
@[simp] theorem State.noteAccess_cycles (s : State) (x : BusAccess) : (s.noteAccess x).cycles = s.cycles := rfl
@[simp] theorem State.noteAccess_bus (s : State) (x : BusAccess) : (s.noteAccess x).bus = s.bus ++ [x] := rfl
@[simp] theorem State.noteAccess_bc (s : State) (x : BusAccess) : (s.noteAccess x).bc = s.bc := rfl
@[simp] theorem State.noteAccess_de (s : State) (x : BusAccess) : (s.noteAccess x).de = s.de := rfl
@[simp] theorem State.noteAccess_hl (s : State) (x : BusAccess) : (s.noteAccess x).hl = s.hl := rfl
@[simp] theorem State.noteAccess_af (s : State) (x : BusAccess) : (s.noteAccess x).af = s.af := rfl
@[simp] theorem State.noteAccess_zf (s : State) (x : BusAccess) : (s.noteAccess x).zf = s.zf := rfl
@[simp] theorem State.noteAccess_nf (s : State) (x : BusAccess) : (s.noteAccess x).nf = s.nf := rfl
@[simp] theorem State.noteAccess_hf (s : State) (x : BusAccess) : (s.noteAccess x).hf = s.hf := rfl
@[simp] theorem State.noteAccess_cf (s : State) (x : BusAccess) : (s.noteAccess x).cf = s.cf := rfl
@[simp] theorem State.noteAccess_peek (s : State) (x : BusAccess) (x_ : Word) : (s.noteAccess x).peek x_ = s.peek x_ := rfl

/-! ### `memWrite` -/

@[simp] theorem State.memWrite_a (s : State) (a : Word) (v : Byte) : (s.memWrite a v).a = s.a := rfl
@[simp] theorem State.memWrite_f (s : State) (a : Word) (v : Byte) : (s.memWrite a v).f = s.f := rfl
@[simp] theorem State.memWrite_b (s : State) (a : Word) (v : Byte) : (s.memWrite a v).b = s.b := rfl
@[simp] theorem State.memWrite_c (s : State) (a : Word) (v : Byte) : (s.memWrite a v).c = s.c := rfl
@[simp] theorem State.memWrite_d (s : State) (a : Word) (v : Byte) : (s.memWrite a v).d = s.d := rfl
@[simp] theorem State.memWrite_e (s : State) (a : Word) (v : Byte) : (s.memWrite a v).e = s.e := rfl
@[simp] theorem State.memWrite_h (s : State) (a : Word) (v : Byte) : (s.memWrite a v).h = s.h := rfl
@[simp] theorem State.memWrite_l (s : State) (a : Word) (v : Byte) : (s.memWrite a v).l = s.l := rfl
@[simp] theorem State.memWrite_sp (s : State) (a : Word) (v : Byte) : (s.memWrite a v).sp = s.sp := rfl
@[simp] theorem State.memWrite_pc (s : State) (a : Word) (v : Byte) : (s.memWrite a v).pc = s.pc := rfl
@[simp] theorem State.memWrite_ime (s : State) (a : Word) (v : Byte) : (s.memWrite a v).ime = s.ime := rfl
@[simp] theorem State.memWrite_mem (s : State) (a : Word) (v : Byte) : (s.memWrite a v).mem = s.backend.store a v s.mem := rfl
@[simp] theorem State.memWrite_backend (s : State) (a : Word) (v : Byte) : (s.memWrite a v).backend = s.backend.after (.write a v) := rfl
@[simp] theorem State.memWrite_extra (s : State) (a : Word) (v : Byte) : (s.memWrite a v).extra = s.extra := rfl
@[simp] theorem State.memWrite_cycles (s : State) (a : Word) (v : Byte) : (s.memWrite a v).cycles = s.cycles := rfl
@[simp] theorem State.memWrite_bus (s : State) (a : Word) (v : Byte) : (s.memWrite a v).bus = s.bus ++ [.write a v] := rfl
@[simp] theorem State.memWrite_bc (s : State) (a : Word) (v : Byte) : (s.memWrite a v).bc = s.bc := rfl
@[simp] theorem State.memWrite_de (s : State) (a : Word) (v : Byte) : (s.memWrite a v).de = s.de := rfl
@[simp] theorem State.memWrite_hl (s : State) (a : Word) (v : Byte) : (s.memWrite a v).hl = s.hl := rfl
@[simp] theorem State.memWrite_af (s : State) (a : Word) (v : Byte) : (s.memWrite a v).af = s.af := rfl
@[simp] theorem State.memWrite_zf (s : State) (a : Word) (v : Byte) : (s.memWrite a v).zf = s.zf := rfl
@[simp] theorem State.memWrite_nf (s : State) (a : Word) (v : Byte) : (s.memWrite a v).nf = s.nf := rfl
@[simp] theorem State.memWrite_hf (s : State) (a : Word) (v : Byte) : (s.memWrite a v).hf = s.hf := rfl
@[simp] theorem State.memWrite_cf (s : State) (a : Word) (v : Byte) : (s.memWrite a v).cf = s.cf := rfl

/-! ### `setPC` -/

@[simp] theorem State.setPC_a (s : State) (v : Word) : (s.setPC v).a = s.a := rfl
@[simp] theorem State.setPC_f (s : State) (v : Word) : (s.setPC v).f = s.f := rfl
@[simp] theorem State.setPC_b (s : State) (v : Word) : (s.setPC v).b = s.b := rfl
@[simp] theorem State.setPC_c (s : State) (v : Word) : (s.setPC v).c = s.c := rfl
@[simp] theorem State.setPC_d (s : State) (v : Word) : (s.setPC v).d = s.d := rfl
@[simp] theorem State.setPC_e (s : State) (v : Word) : (s.setPC v).e = s.e := rfl
@[simp] theorem State.setPC_h (s : State) (v : Word) : (s.setPC v).h = s.h := rfl
@[simp] theorem State.setPC_l (s : State) (v : Word) : (s.setPC v).l = s.l := rfl
@[simp] theorem State.setPC_sp (s : State) (v : Word) : (s.setPC v).sp = s.sp := rfl
@[simp] theorem State.setPC_pc (s : State) (v : Word) : (s.setPC v).pc = v := rfl
@[simp] theorem State.setPC_ime (s : State) (v : Word) : (s.setPC v).ime = s.ime := rfl
@[simp] theorem State.setPC_mem (s : State) (v : Word) : (s.setPC v).mem = s.mem := rfl
@[simp] theorem State.setPC_backend (s : State) (v : Word) : (s.setPC v).backend = s.backend := rfl
@[simp] theorem State.setPC_extra (s : State) (v : Word) : (s.setPC v).extra = s.extra := rfl
@[simp] theorem State.setPC_cycles (s : State) (v : Word) : (s.setPC v).cycles = s.cycles := rfl
@[simp] theorem State.setPC_bus (s : State) (v : Word) : (s.setPC v).bus = s.bus := rfl
@[simp] theorem State.setPC_bc (s : State) (v : Word) : (s.setPC v).bc = s.bc := rfl
@[simp] theorem State.setPC_de (s : State) (v : Word) : (s.setPC v).de = s.de := rfl
@[simp] theorem State.setPC_hl (s : State) (v : Word) : (s.setPC v).hl = s.hl := rfl
@[simp] theorem State.setPC_af (s : State) (v : Word) : (s.setPC v).af = s.af := rfl
@[simp] theorem State.setPC_zf (s : State) (v : Word) : (s.setPC v).zf = s.zf := rfl
@[simp] theorem State.setPC_nf (s : State) (v : Word) : (s.setPC v).nf = s.nf := rfl
@[simp] theorem State.setPC_hf (s : State) (v : Word) : (s.setPC v).hf = s.hf := rfl
@[simp] theorem State.setPC_cf (s : State) (v : Word) : (s.setPC v).cf = s.cf := rfl
@[simp] theorem State.setPC_peek (s : State) (v : Word) (x_ : Word) : (s.setPC v).peek x_ = s.peek x_ := rfl
@[simp] theorem State.setPC_reply (s : State) (v : Word) (x_ : Word) : (s.setPC v).reply x_ = s.reply x_ := rfl

/-! ### `setSP` -/

@[simp] theorem State.setSP_a (s : State) (v : Word) : (s.setSP v).a = s.a := rfl
@[simp] theorem State.setSP_f (s : State) (v : Word) : (s.setSP v).f = s.f := rfl
@[simp] theorem State.setSP_b (s : State) (v : Word) : (s.setSP v).b = s.b := rfl
@[simp] theorem State.setSP_c (s : State) (v : Word) : (s.setSP v).c = s.c := rfl
@[simp] theorem State.setSP_d (s : State) (v : Word) : (s.setSP v).d = s.d := rfl
@[simp] theorem State.setSP_e (s : State) (v : Word) : (s.setSP v).e = s.e := rfl
@[simp] theorem State.setSP_h (s : State) (v : Word) : (s.setSP v).h = s.h := rfl
@[simp] theorem State.setSP_l (s : State) (v : Word) : (s.setSP v).l = s.l := rfl
@[simp] theorem State.setSP_sp (s : State) (v : Word) : (s.setSP v).sp = v := rfl
@[simp] theorem State.setSP_pc (s : State) (v : Word) : (s.setSP v).pc = s.pc := rfl
@[simp] theorem State.setSP_ime (s : State) (v : Word) : (s.setSP v).ime = s.ime := rfl
@[simp] theorem State.setSP_mem (s : State) (v : Word) : (s.setSP v).mem = s.mem := rfl
@[simp] theorem State.setSP_backend (s : State) (v : Word) : (s.setSP v).backend = s.backend := rfl
@[simp] theorem State.setSP_extra (s : State) (v : Word) : (s.setSP v).extra = s.extra := rfl
@[simp] theorem State.setSP_cycles (s : State) (v : Word) : (s.setSP v).cycles = s.cycles := rfl
@[simp] theorem State.setSP_bus (s : State) (v : Word) : (s.setSP v).bus = s.bus := rfl
@[simp] theorem State.setSP_bc (s : State) (v : Word) : (s.setSP v).bc = s.bc := rfl
@[simp] theorem State.setSP_de (s : State) (v : Word) : (s.setSP v).de = s.de := rfl
@[simp] theorem State.setSP_hl (s : State) (v : Word) : (s.setSP v).hl = s.hl := rfl
@[simp] theorem State.setSP_af (s : State) (v : Word) : (s.setSP v).af = s.af := rfl
@[simp] theorem State.setSP_zf (s : State) (v : Word) : (s.setSP v).zf = s.zf := rfl
@[simp] theorem State.setSP_nf (s : State) (v : Word) : (s.setSP v).nf = s.nf := rfl
@[simp] theorem State.setSP_hf (s : State) (v : Word) : (s.setSP v).hf = s.hf := rfl
@[simp] theorem State.setSP_cf (s : State) (v : Word) : (s.setSP v).cf = s.cf := rfl
@[simp] theorem State.setSP_peek (s : State) (v : Word) (x_ : Word) : (s.setSP v).peek x_ = s.peek x_ := rfl
@[simp] theorem State.setSP_reply (s : State) (v : Word) (x_ : Word) : (s.setSP v).reply x_ = s.reply x_ := rfl

/-! ### `setIME` -/

@[simp] theorem State.setIME_a (s : State) (v : Bool) : (s.setIME v).a = s.a := rfl
@[simp] theorem State.setIME_f (s : State) (v : Bool) : (s.setIME v).f = s.f := rfl
@[simp] theorem State.setIME_b (s : State) (v : Bool) : (s.setIME v).b = s.b := rfl
@[simp] theorem State.setIME_c (s : State) (v : Bool) : (s.setIME v).c = s.c := rfl
@[simp] theorem State.setIME_d (s : State) (v : Bool) : (s.setIME v).d = s.d := rfl
@[simp] theorem State.setIME_e (s : State) (v : Bool) : (s.setIME v).e = s.e := rfl
@[simp] theorem State.setIME_h (s : State) (v : Bool) : (s.setIME v).h = s.h := rfl
@[simp] theorem State.setIME_l (s : State) (v : Bool) : (s.setIME v).l = s.l := rfl
@[simp] theorem State.setIME_sp (s : State) (v : Bool) : (s.setIME v).sp = s.sp := rfl
@[simp] theorem State.setIME_pc (s : State) (v : Bool) : (s.setIME v).pc = s.pc := rfl
@[simp] theorem State.setIME_ime (s : State) (v : Bool) : (s.setIME v).ime = v := rfl
@[simp] theorem State.setIME_mem (s : State) (v : Bool) : (s.setIME v).mem = s.mem := rfl
@[simp] theorem State.setIME_backend (s : State) (v : Bool) : (s.setIME v).backend = s.backend := rfl
@[simp] theorem State.setIME_extra (s : State) (v : Bool) : (s.setIME v).extra = s.extra := rfl
@[simp] theorem State.setIME_cycles (s : State) (v : Bool) : (s.setIME v).cycles = s.cycles := rfl
@[simp] theorem State.setIME_bus (s : State) (v : Bool) : (s.setIME v).bus = s.bus := rfl
@[simp] theorem State.setIME_bc (s : State) (v : Bool) : (s.setIME v).bc = s.bc := rfl
@[simp] theorem State.setIME_de (s : State) (v : Bool) : (s.setIME v).de = s.de := rfl
@[simp] theorem State.setIME_hl (s : State) (v : Bool) : (s.setIME v).hl = s.hl := rfl
@[simp] theorem State.setIME_af (s : State) (v : Bool) : (s.setIME v).af = s.af := rfl
@[simp] theorem State.setIME_zf (s : State) (v : Bool) : (s.setIME v).zf = s.zf := rfl
@[simp] theorem State.setIME_nf (s : State) (v : Bool) : (s.setIME v).nf = s.nf := rfl
@[simp] theorem State.setIME_hf (s : State) (v : Bool) : (s.setIME v).hf = s.hf := rfl
@[simp] theorem State.setIME_cf (s : State) (v : Bool) : (s.setIME v).cf = s.cf := rfl
@[simp] theorem State.setIME_peek (s : State) (v : Bool) (x_ : Word) : (s.setIME v).peek x_ = s.peek x_ := rfl
@[simp] theorem State.setIME_reply (s : State) (v : Bool) (x_ : Word) : (s.setIME v).reply x_ = s.reply x_ := rfl

/-! ### `setA` -/

@[simp] theorem State.setA_a (s : State) (v : Byte) : (s.setA v).a = v := rfl
@[simp] theorem State.setA_f (s : State) (v : Byte) : (s.setA v).f = s.f := rfl
@[simp] theorem State.setA_b (s : State) (v : Byte) : (s.setA v).b = s.b := rfl
@[simp] theorem State.setA_c (s : State) (v : Byte) : (s.setA v).c = s.c := rfl
@[simp] theorem State.setA_d (s : State) (v : Byte) : (s.setA v).d = s.d := rfl
@[simp] theorem State.setA_e (s : State) (v : Byte) : (s.setA v).e = s.e := rfl
@[simp] theorem State.setA_h (s : State) (v : Byte) : (s.setA v).h = s.h := rfl
@[simp] theorem State.setA_l (s : State) (v : Byte) : (s.setA v).l = s.l := rfl
@[simp] theorem State.setA_sp (s : State) (v : Byte) : (s.setA v).sp = s.sp := rfl
@[simp] theorem State.setA_pc (s : State) (v : Byte) : (s.setA v).pc = s.pc := rfl
@[simp] theorem State.setA_ime (s : State) (v : Byte) : (s.setA v).ime = s.ime := rfl
@[simp] theorem State.setA_mem (s : State) (v : Byte) : (s.setA v).mem = s.mem := rfl
@[simp] theorem State.setA_backend (s : State) (v : Byte) : (s.setA v).backend = s.backend := rfl
@[simp] theorem State.setA_extra (s : State) (v : Byte) : (s.setA v).extra = s.extra := rfl
@[simp] theorem State.setA_cycles (s : State) (v : Byte) : (s.setA v).cycles = s.cycles := rfl
@[simp] theorem State.setA_bus (s : State) (v : Byte) : (s.setA v).bus = s.bus := rfl
@[simp] theorem State.setA_bc (s : State) (v : Byte) : (s.setA v).bc = s.bc := rfl
@[simp] theorem State.setA_de (s : State) (v : Byte) : (s.setA v).de = s.de := rfl
@[simp] theorem State.setA_hl (s : State) (v : Byte) : (s.setA v).hl = s.hl := rfl
@[simp] theorem State.setA_zf (s : State) (v : Byte) : (s.setA v).zf = s.zf := rfl
@[simp] theorem State.setA_nf (s : State) (v : Byte) : (s.setA v).nf = s.nf := rfl
@[simp] theorem State.setA_hf (s : State) (v : Byte) : (s.setA v).hf = s.hf := rfl
@[simp] theorem State.setA_cf (s : State) (v : Byte) : (s.setA v).cf = s.cf := rfl
@[simp] theorem State.setA_peek (s : State) (v : Byte) (x_ : Word) : (s.setA v).peek x_ = s.peek x_ := rfl
@[simp] theorem State.setA_reply (s : State) (v : Byte) (x_ : Word) : (s.setA v).reply x_ = s.reply x_ := rfl

/-! ### `setBC` -/

@[simp] theorem State.setBC_a (s : State) (v : Word) : (s.setBC v).a = s.a := rfl
@[simp] theorem State.setBC_f (s : State) (v : Word) : (s.setBC v).f = s.f := rfl
@[simp] theorem State.setBC_b (s : State) (v : Word) : (s.setBC v).b = hi8 v := rfl
@[simp] theorem State.setBC_c (s : State) (v : Word) : (s.setBC v).c = lo8 v := rfl
@[simp] theorem State.setBC_d (s : State) (v : Word) : (s.setBC v).d = s.d := rfl
@[simp] theorem State.setBC_e (s : State) (v : Word) : (s.setBC v).e = s.e := rfl
@[simp] theorem State.setBC_h (s : State) (v : Word) : (s.setBC v).h = s.h := rfl
@[simp] theorem State.setBC_l (s : State) (v : Word) : (s.setBC v).l = s.l := rfl
@[simp] theorem State.setBC_sp (s : State) (v : Word) : (s.setBC v).sp = s.sp := rfl
@[simp] theorem State.setBC_pc (s : State) (v : Word) : (s.setBC v).pc = s.pc := rfl
@[simp] theorem State.setBC_ime (s : State) (v : Word) : (s.setBC v).ime = s.ime := rfl
@[simp] theorem State.setBC_mem (s : State) (v : Word) : (s.setBC v).mem = s.mem := rfl
@[simp] theorem State.setBC_backend (s : State) (v : Word) : (s.setBC v).backend = s.backend := rfl
@[simp] theorem State.setBC_extra (s : State) (v : Word) : (s.setBC v).extra = s.extra := rfl
@[simp] theorem State.setBC_cycles (s : State) (v : Word) : (s.setBC v).cycles = s.cycles := rfl
@[simp] theorem State.setBC_bus (s : State) (v : Word) : (s.setBC v).bus = s.bus := rfl
@[simp] theorem State.setBC_de (s : State) (v : Word) : (s.setBC v).de = s.de := rfl
@[simp] theorem State.setBC_hl (s : State) (v : Word) : (s.setBC v).hl = s.hl := rfl
@[simp] theorem State.setBC_af (s : State) (v : Word) : (s.setBC v).af = s.af := rfl
@[simp] theorem State.setBC_zf (s : State) (v : Word) : (s.setBC v).zf = s.zf := rfl
@[simp] theorem State.setBC_nf (s : State) (v : Word) : (s.setBC v).nf = s.nf := rfl
@[simp] theorem State.setBC_hf (s : State) (v : Word) : (s.setBC v).hf = s.hf := rfl
@[simp] theorem State.setBC_cf (s : State) (v : Word) : (s.setBC v).cf = s.cf := rfl
@[simp] theorem State.setBC_peek (s : State) (v : Word) (x_ : Word) : (s.setBC v).peek x_ = s.peek x_ := rfl
@[simp] theorem State.setBC_reply (s : State) (v : Word) (x_ : Word) : (s.setBC v).reply x_ = s.reply x_ := rfl

/-! ### `setDE` -/

@[simp] theorem State.setDE_a (s : State) (v : Word) : (s.setDE v).a = s.a := rfl
@[simp] theorem State.setDE_f (s : State) (v : Word) : (s.setDE v).f = s.f := rfl
@[simp] theorem State.setDE_b (s : State) (v : Word) : (s.setDE v).b = s.b := rfl
@[simp] theorem State.setDE_c (s : State) (v : Word) : (s.setDE v).c = s.c := rfl
@[simp] theorem State.setDE_d (s : State) (v : Word) : (s.setDE v).d = hi8 v := rfl
@[simp] theorem State.setDE_e (s : State) (v : Word) : (s.setDE v).e = lo8 v := rfl
@[simp] theorem State.setDE_h (s : State) (v : Word) : (s.setDE v).h = s.h := rfl
@[simp] theorem State.setDE_l (s : State) (v : Word) : (s.setDE v).l = s.l := rfl
@[simp] theorem State.setDE_sp (s : State) (v : Word) : (s.setDE v).sp = s.sp := rfl
@[simp] theorem State.setDE_pc (s : State) (v : Word) : (s.setDE v).pc = s.pc := rfl
@[simp] theorem State.setDE_ime (s : State) (v : Word) : (s.setDE v).ime = s.ime := rfl
@[simp] theorem State.setDE_mem (s : State) (v : Word) : (s.setDE v).mem = s.mem := rfl
@[simp] theorem State.setDE_backend (s : State) (v : Word) : (s.setDE v).backend = s.backend := rfl
@[simp] theorem State.setDE_extra (s : State) (v : Word) : (s.setDE v).extra = s.extra := rfl
@[simp] theorem State.setDE_cycles (s : State) (v : Word) : (s.setDE v).cycles = s.cycles := rfl
@[simp] theorem State.setDE_bus (s : State) (v : Word) : (s.setDE v).bus = s.bus := rfl
@[simp] theorem State.setDE_bc (s : State) (v : Word) : (s.setDE v).bc = s.bc := rfl
@[simp] theorem State.setDE_hl (s : State) (v : Word) : (s.setDE v).hl = s.hl := rfl
@[simp] theorem State.setDE_af (s : State) (v : Word) : (s.setDE v).af = s.af := rfl
@[simp] theorem State.setDE_zf (s : State) (v : Word) : (s.setDE v).zf = s.zf := rfl
@[simp] theorem State.setDE_nf (s : State) (v : Word) : (s.setDE v).nf = s.nf := rfl
@[simp] theorem State.setDE_hf (s : State) (v : Word) : (s.setDE v).hf = s.hf := rfl
@[simp] theorem State.setDE_cf (s : State) (v : Word) : (s.setDE v).cf = s.cf := rfl
@[simp] theorem State.setDE_peek (s : State) (v : Word) (x_ : Word) : (s.setDE v).peek x_ = s.peek x_ := rfl
@[simp] theorem State.setDE_reply (s : State) (v : Word) (x_ : Word) : (s.setDE v).reply x_ = s.reply x_ := rfl

/-! ### `setHL` -/

@[simp] theorem State.setHL_a (s : State) (v : Word) : (s.setHL v).a = s.a := rfl
@[simp] theorem State.setHL_f (s : State) (v : Word) : (s.setHL v).f = s.f := rfl
@[simp] theorem State.setHL_b (s : State) (v : Word) : (s.setHL v).b = s.b := rfl
@[simp] theorem State.setHL_c (s : State) (v : Word) : (s.setHL v).c = s.c := rfl
@[simp] theorem State.setHL_d (s : State) (v : Word) : (s.setHL v).d = s.d := rfl
@[simp] theorem State.setHL_e (s : State) (v : Word) : (s.setHL v).e = s.e := rfl
@[simp] theorem State.setHL_h (s : State) (v : Word) : (s.setHL v).h = hi8 v := rfl
@[simp] theorem State.setHL_l (s : State) (v : Word) : (s.setHL v).l = lo8 v := rfl
@[simp] theorem State.setHL_sp (s : State) (v : Word) : (s.setHL v).sp = s.sp := rfl
@[simp] theorem State.setHL_pc (s : State) (v : Word) : (s.setHL v).pc = s.pc := rfl
@[simp] theorem State.setHL_ime (s : State) (v : Word) : (s.setHL v).ime = s.ime := rfl
@[simp] theorem State.setHL_mem (s : State) (v : Word) : (s.setHL v).mem = s.mem := rfl
@[simp] theorem State.setHL_backend (s : State) (v : Word) : (s.setHL v).backend = s.backend := rfl
@[simp] theorem State.setHL_extra (s : State) (v : Word) : (s.setHL v).extra = s.extra := rfl
@[simp] theorem State.setHL_cycles (s : State) (v : Word) : (s.setHL v).cycles = s.cycles := rfl
@[simp] theorem State.setHL_bus (s : State) (v : Word) : (s.setHL v).bus = s.bus := rfl
@[simp] theorem State.setHL_bc (s : State) (v : Word) : (s.setHL v).bc = s.bc := rfl
@[simp] theorem State.setHL_de (s : State) (v : Word) : (s.setHL v).de = s.de := rfl
@[simp] theorem State.setHL_af (s : State) (v : Word) : (s.setHL v).af = s.af := rfl
@[simp] theorem State.setHL_zf (s : State) (v : Word) : (s.setHL v).zf = s.zf := rfl
@[simp] theorem State.setHL_nf (s : State) (v : Word) : (s.setHL v).nf = s.nf := rfl
@[simp] theorem State.setHL_hf (s : State) (v : Word) : (s.setHL v).hf = s.hf := rfl
@[simp] theorem State.setHL_cf (s : State) (v : Word) : (s.setHL v).cf = s.cf := rfl
@[simp] theorem State.setHL_peek (s : State) (v : Word) (x_ : Word) : (s.setHL v).peek x_ = s.peek x_ := rfl
@[simp] theorem State.setHL_reply (s : State) (v : Word) (x_ : Word) : (s.setHL v).reply x_ = s.reply x_ := rfl

/-! ### `setAF` -/

@[simp] theorem State.setAF_a (s : State) (v : Word) : (s.setAF v).a = hi8 v := rfl
@[simp] theorem State.setAF_f (s : State) (v : Word) : (s.setAF v).f = lo8 v &&& 0xF0 := rfl
@[simp] theorem State.setAF_b (s : State) (v : Word) : (s.setAF v).b = s.b := rfl
@[simp] theorem State.setAF_c (s : State) (v : Word) : (s.setAF v).c = s.c := rfl
@[simp] theorem State.setAF_d (s : State) (v : Word) : (s.setAF v).d = s.d := rfl
@[simp] theorem State.setAF_e (s : State) (v : Word) : (s.setAF v).e = s.e := rfl
@[simp] theorem State.setAF_h (s : State) (v : Word) : (s.setAF v).h = s.h := rfl
@[simp] theorem State.setAF_l (s : State) (v : Word) : (s.setAF v).l = s.l := rfl
@[simp] theorem State.setAF_sp (s : State) (v : Word) : (s.setAF v).sp = s.sp := rfl
@[simp] theorem State.setAF_pc (s : State) (v : Word) : (s.setAF v).pc = s.pc := rfl
@[simp] theorem State.setAF_ime (s : State) (v : Word) : (s.setAF v).ime = s.ime := rfl
@[simp] theorem State.setAF_mem (s : State) (v : Word) : (s.setAF v).mem = s.mem := rfl
@[simp] theorem State.setAF_backend (s : State) (v : Word) : (s.setAF v).backend = s.backend := rfl
@[simp] theorem State.setAF_extra (s : State) (v : Word) : (s.setAF v).extra = s.extra := rfl
@[simp] theorem State.setAF_cycles (s : State) (v : Word) : (s.setAF v).cycles = s.cycles := rfl
@[simp] theorem State.setAF_bus (s : State) (v : Word) : (s.setAF v).bus = s.bus := rfl
@[simp] theorem State.setAF_bc (s : State) (v : Word) : (s.setAF v).bc = s.bc := rfl
@[simp] theorem State.setAF_de (s : State) (v : Word) : (s.setAF v).de = s.de := rfl
@[simp] theorem State.setAF_hl (s : State) (v : Word) : (s.setAF v).hl = s.hl := rfl
@[simp] theorem State.setAF_peek (s : State) (v : Word) (x_ : Word) : (s.setAF v).peek x_ = s.peek x_ := rfl
@[simp] theorem State.setAF_reply (s : State) (v : Word) (x_ : Word) : (s.setAF v).reply x_ = s.reply x_ := rfl

/-! ### `setFlags` -/

@[simp] theorem State.setFlags_a (s : State) (z n h c : Bool) : (s.setFlags z n h c).a = s.a := rfl
@[simp] theorem State.setFlags_f (s : State) (z n h c : Bool) : (s.setFlags z n h c).f = flagByte z n h c := rfl
@[simp] theorem State.setFlags_b (s : State) (z n h c : Bool) : (s.setFlags z n h c).b = s.b := rfl
@[simp] theorem State.setFlags_c (s : State) (z n h c : Bool) : (s.setFlags z n h c).c = s.c := rfl
@[simp] theorem State.setFlags_d (s : State) (z n h c : Bool) : (s.setFlags z n h c).d = s.d := rfl
@[simp] theorem State.setFlags_e (s : State) (z n h c : Bool) : (s.setFlags z n h c).e = s.e := rfl
@[simp] theorem State.setFlags_h (s : State) (z n h c : Bool) : (s.setFlags z n h c).h = s.h := rfl
@[simp] theorem State.setFlags_l (s : State) (z n h c : Bool) : (s.setFlags z n h c).l = s.l := rfl
@[simp] theorem State.setFlags_sp (s : State) (z n h c : Bool) : (s.setFlags z n h c).sp = s.sp := rfl
@[simp] theorem State.setFlags_pc (s : State) (z n h c : Bool) : (s.setFlags z n h c).pc = s.pc := rfl
@[simp] theorem State.setFlags_ime (s : State) (z n h c : Bool) : (s.setFlags z n h c).ime = s.ime := rfl
@[simp] theorem State.setFlags_mem (s : State) (z n h c : Bool) : (s.setFlags z n h c).mem = s.mem := rfl
@[simp] theorem State.setFlags_backend (s : State) (z n h c : Bool) : (s.setFlags z n h c).backend = s.backend := rfl
@[simp] theorem State.setFlags_extra (s : State) (z n h c : Bool) : (s.setFlags z n h c).extra = s.extra := rfl
@[simp] theorem State.setFlags_cycles (s : State) (z n h c : Bool) : (s.setFlags z n h c).cycles = s.cycles := rfl
@[simp] theorem State.setFlags_bus (s : State) (z n h c : Bool) : (s.setFlags z n h c).bus = s.bus := rfl
@[simp] theorem State.setFlags_bc (s : State) (z n h c : Bool) : (s.setFlags z n h c).bc = s.bc := rfl
@[simp] theorem State.setFlags_de (s : State) (z n h c : Bool) : (s.setFlags z n h c).de = s.de := rfl
@[simp] theorem State.setFlags_hl (s : State) (z n h c : Bool) : (s.setFlags z n h c).hl = s.hl := rfl
@[simp] theorem State.setFlags_peek (s : State) (z n h c : Bool) (x_ : Word) : (s.setFlags z n h c).peek x_ = s.peek x_ := rfl
@[simp] theorem State.setFlags_reply (s : State) (z n h c : Bool) (x_ : Word) : (s.setFlags z n h c).reply x_ = s.reply x_ := rfl

/-! ### `addExtra` -/

@[simp] theorem State.addExtra_a (s : State) (k : Nat) : (s.addExtra k).a = s.a := rfl
@[simp] theorem State.addExtra_f (s : State) (k : Nat) : (s.addExtra k).f = s.f := rfl
@[simp] theorem State.addExtra_b (s : State) (k : Nat) : (s.addExtra k).b = s.b := rfl
@[simp] theorem State.addExtra_c (s : State) (k : Nat) : (s.addExtra k).c = s.c := rfl
@[simp] theorem State.addExtra_d (s : State) (k : Nat) : (s.addExtra k).d = s.d := rfl
@[simp] theorem State.addExtra_e (s : State) (k : Nat) : (s.addExtra k).e = s.e := rfl
@[simp] theorem State.addExtra_h (s : State) (k : Nat) : (s.addExtra k).h = s.h := rfl
@[simp] theorem State.addExtra_l (s : State) (k : Nat) : (s.addExtra k).l = s.l := rfl
@[simp] theorem State.addExtra_sp (s : State) (k : Nat) : (s.addExtra k).sp = s.sp := rfl
@[simp] theorem State.addExtra_pc (s : State) (k : Nat) : (s.addExtra k).pc = s.pc := rfl
@[simp] theorem State.addExtra_ime (s : State) (k : Nat) : (s.addExtra k).ime = s.ime := rfl
@[simp] theorem State.addExtra_mem (s : State) (k : Nat) : (s.addExtra k).mem = s.mem := rfl
@[simp] theorem State.addExtra_backend (s : State) (k : Nat) : (s.addExtra k).backend = s.backend := rfl
@[simp] theorem State.addExtra_extra (s : State) (k : Nat) : (s.addExtra k).extra = s.extra + k := rfl
@[simp] theorem State.addExtra_cycles (s : State) (k : Nat) : (s.addExtra k).cycles = s.cycles := rfl
@[simp] theorem State.addExtra_bus (s : State) (k : Nat) : (s.addExtra k).bus = s.bus := rfl
@[simp] theorem State.addExtra_bc (s : State) (k : Nat) : (s.addExtra k).bc = s.bc := rfl
@[simp] theorem State.addExtra_de (s : State) (k : Nat) : (s.addExtra k).de = s.de := rfl
@[simp] theorem State.addExtra_hl (s : State) (k : Nat) : (s.addExtra k).hl = s.hl := rfl
@[simp] theorem State.addExtra_af (s : State) (k : Nat) : (s.addExtra k).af = s.af := rfl
@[simp] theorem State.addExtra_zf (s : State) (k : Nat) : (s.addExtra k).zf = s.zf := rfl
@[simp] theorem State.addExtra_nf (s : State) (k : Nat) : (s.addExtra k).nf = s.nf := rfl
@[simp] theorem State.addExtra_hf (s : State) (k : Nat) : (s.addExtra k).hf = s.hf := rfl
@[simp] theorem State.addExtra_cf (s : State) (k : Nat) : (s.addExtra k).cf = s.cf := rfl
@[simp] theorem State.addExtra_peek (s : State) (k : Nat) (x_ : Word) : (s.addExtra k).peek x_ = s.peek x_ := rfl
@[simp] theorem State.addExtra_reply (s : State) (k : Nat) (x_ : Word) : (s.addExtra k).reply x_ = s.reply x_ := rfl

/-! ### `retire` -/

@[simp] theorem State.retire_a (s : State) (k : Nat) : (s.retire k).a = s.a := rfl
@[simp] theorem State.retire_f (s : State) (k : Nat) : (s.retire k).f = s.f := rfl
@[simp] theorem State.retire_b (s : State) (k : Nat) : (s.retire k).b = s.b := rfl
@[simp] theorem State.retire_c (s : State) (k : Nat) : (s.retire k).c = s.c := rfl
@[simp] theorem State.retire_d (s : State) (k : Nat) : (s.retire k).d = s.d := rfl
@[simp] theorem State.retire_e (s : State) (k : Nat) : (s.retire k).e = s.e := rfl
@[simp] theorem State.retire_h (s : State) (k : Nat) : (s.retire k).h = s.h := rfl
@[simp] theorem State.retire_l (s : State) (k : Nat) : (s.retire k).l = s.l := rfl
@[simp] theorem State.retire_sp (s : State) (k : Nat) : (s.retire k).sp = s.sp := rfl
@[simp] theorem State.retire_pc (s : State) (k : Nat) : (s.retire k).pc = s.pc := rfl
@[simp] theorem State.retire_ime (s : State) (k : Nat) : (s.retire k).ime = s.ime := rfl
@[simp] theorem State.retire_mem (s : State) (k : Nat) : (s.retire k).mem = s.mem := rfl
@[simp] theorem State.retire_backend (s : State) (k : Nat) : (s.retire k).backend = s.backend := rfl
@[simp] theorem State.retire_extra (s : State) (k : Nat) : (s.retire k).extra = 0 := rfl
@[simp] theorem State.retire_cycles (s : State) (k : Nat) : (s.retire k).cycles = k + s.extra := rfl
@[simp] theorem State.retire_bus (s : State) (k : Nat) : (s.retire k).bus = s.bus := rfl
@[simp] theorem State.retire_bc (s : State) (k : Nat) : (s.retire k).bc = s.bc := rfl
@[simp] theorem State.retire_de (s : State) (k : Nat) : (s.retire k).de = s.de := rfl
@[simp] theorem State.retire_hl (s : State) (k : Nat) : (s.retire k).hl = s.hl := rfl
@[simp] theorem State.retire_af (s : State) (k : Nat) : (s.retire k).af = s.af := rfl
@[simp] theorem State.retire_zf (s : State) (k : Nat) : (s.retire k).zf = s.zf := rfl
@[simp] theorem State.retire_nf (s : State) (k : Nat) : (s.retire k).nf = s.nf := rfl
@[simp] theorem State.retire_hf (s : State) (k : Nat) : (s.retire k).hf = s.hf := rfl
@[simp] theorem State.retire_cf (s : State) (k : Nat) : (s.retire k).cf = s.cf := rfl
@[simp] theorem State.retire_peek (s : State) (k : Nat) (x_ : Word) : (s.retire k).peek x_ = s.peek x_ := rfl
@[simp] theorem State.retire_reply (s : State) (k : Nat) (x_ : Word) : (s.retire k).reply x_ = s.reply x_ := rfl

/-! ### `beginStep` -/

@[simp] theorem State.beginStep_a (s : State) : (s.beginStep).a = s.a := rfl
@[simp] theorem State.beginStep_f (s : State) : (s.beginStep).f = s.f := rfl
@[simp] theorem State.beginStep_b (s : State) : (s.beginStep).b = s.b := rfl
@[simp] theorem State.beginStep_c (s : State) : (s.beginStep).c = s.c := rfl
@[simp] theorem State.beginStep_d (s : State) : (s.beginStep).d = s.d := rfl
@[simp] theorem State.beginStep_e (s : State) : (s.beginStep).e = s.e := rfl
@[simp] theorem State.beginStep_h (s : State) : (s.beginStep).h = s.h := rfl
@[simp] theorem State.beginStep_l (s : State) : (s.beginStep).l = s.l := rfl
@[simp] theorem State.beginStep_sp (s : State) : (s.beginStep).sp = s.sp := rfl
@[simp] theorem State.beginStep_pc (s : State) : (s.beginStep).pc = s.pc := rfl
@[simp] theorem State.beginStep_ime (s : State) : (s.beginStep).ime = s.ime := rfl
@[simp] theorem State.beginStep_mem (s : State) : (s.beginStep).mem = s.mem := rfl
@[simp] theorem State.beginStep_backend (s : State) : (s.beginStep).backend = s.backend := rfl
@[simp] theorem State.beginStep_extra (s : State) : (s.beginStep).extra = 0 := rfl
@[simp] theorem State.beginStep_cycles (s : State) : (s.beginStep).cycles = s.cycles := rfl
@[simp] theorem State.beginStep_bus (s : State) : (s.beginStep).bus = [] := rfl
@[simp] theorem State.beginStep_bc (s : State) : (s.beginStep).bc = s.bc := rfl
@[simp] theorem State.beginStep_de (s : State) : (s.beginStep).de = s.de := rfl
@[simp] theorem State.beginStep_hl (s : State) : (s.beginStep).hl = s.hl := rfl
@[simp] theorem State.beginStep_af (s : State) : (s.beginStep).af = s.af := rfl
@[simp] theorem State.beginStep_zf (s : State) : (s.beginStep).zf = s.zf := rfl
@[simp] theorem State.beginStep_nf (s : State) : (s.beginStep).nf = s.nf := rfl
@[simp] theorem State.beginStep_hf (s : State) : (s.beginStep).hf = s.hf := rfl
@[simp] theorem State.beginStep_cf (s : State) : (s.beginStep).cf = s.cf := rfl
@[simp] theorem State.beginStep_peek (s : State) (x_ : Word) : (s.beginStep).peek x_ = s.peek x_ := rfl
@[simp] theorem State.beginStep_reply (s : State) (x_ : Word) : (s.beginStep).reply x_ = s.reply x_ := rfl

end Sys2Proof.Machine
end

