-- ==== Sys2Proof/Laws/Memory.lean ====
section
/-! SUPPORT. The laws of `Memory`: a read after a write, and that every operation keeps the canonical form. -/

namespace Sys2Proof.Machine

/-! ## Read after write -/

theorem Memory.get_erase (m : Memory) (k a : Nat) : (m.erase k).get a = if a = k then 0x00 else m.get a := by
  induction m with
  | nil => simp [Memory.erase, Memory.get]
  | cons x m ih =>
    obtain ⟨j, w⟩ := x
    simp only [Memory.erase, Memory.get]
    by_cases h : j = k <;> by_cases h' : a = k <;> by_cases h'' : j = a <;> simp_all [Memory.get]

theorem Memory.get_insert (m : Memory) (k a : Nat) (v : Byte) :
    (m.insert k v).get a = if a = k then v else m.get a := by
  induction m with
  | nil => simp [Memory.insert, Memory.get, eq_comm]
  | cons x m ih =>
    obtain ⟨j, w⟩ := x
    simp only [Memory.insert]
    split
    · simp [Memory.get, eq_comm]
    · split
      · subst k
        by_cases h' : a = j <;> simp [Memory.get, h', eq_comm (a := j)]
      · by_cases h' : a = k
        · subst h'; simp [Memory.get, ih, Ne.symm ‹¬a = j›]
        · simp [Memory.get, ih, h']

/-- A byte put is the byte got, and no other byte changes. -/
theorem Memory.get_put (m : Memory) (k a : Nat) (v : Byte) : (m.put k v).get a = if a = k then v else m.get a := by
  unfold Memory.put
  split
  · subst v; exact m.get_erase k a
  · exact m.get_insert k a v

/-- A region that stores reads back what it holds. -/
theorem Region.readsFF_of_stores {r : Region} (h : r.stores = true) : r.readsFF = false := by
  cases r <;> simp_all [Region.stores, Region.readsFF]

/-- The bus's read after its write (20_memory.md R58). -/
theorem Memory.read_write (m : Memory) (a x : Word) (v : Byte) :
    (m.write a v).read x = if x = a ∧ (regionOf a.toNat).stores = true then v else m.read x := by
  unfold Memory.write Memory.read
  by_cases hs : (regionOf a.toNat).stores = true
  · by_cases hx : x = a
    · subst hx; simp [hs, Region.readsFF_of_stores hs, Memory.get_put]
    · have : x.toNat ≠ a.toNat := fun h => hx (BitVec.eq_of_toNat_eq h)
      simp [hs, hx, this, Memory.get_put]
  · simp [hs]

/-! ## The bus -/

@[simp] theorem State.reply_mmu (s : State) (a : Word) (h : s.backend = .mmu) : s.reply a = s.peek a := by
  simp only [State.reply, h, Backend.reply, State.peek]

@[simp] theorem Backend.mmu_after (x : BusAccess) : Backend.mmu.after x = .mmu := rfl

@[simp] theorem Backend.after_eq_mmu (b : Backend) (x : BusAccess) : b.after x = .mmu ↔ b = .mmu := by
  cases b <;> simp [Backend.after]

/-- Which bus it is stays the same, and so does whether it stores in the MMU. -/
@[simp] theorem Backend.store_after (b : Backend) (x : BusAccess) (a : Word) (v : Byte) (m : Memory) :
    (b.after x).store a v m = b.store a v m := by cases b <;> rfl

theorem Backend.store_read (b : Backend) (m : Memory) (a x : Word) (v : Byte) :
    (b.store a v m).read x = if b = .mmu ∧ x = a ∧ (regionOf a.toNat).stores = true then v else m.read x := by
  cases b <;> simp [Backend.store, Memory.read_write]

/-- The MMU's byte after a bus write, through the state. -/
theorem State.memWrite_peek (s : State) (a : Word) (v : Byte) (x : Word) :
    (s.memWrite a v).peek x =
      if s.backend = .mmu ∧ x = a ∧ (regionOf a.toNat).stores = true then v else s.peek x :=
  s.backend.store_read s.mem a x v

@[simp] theorem State.memWrite_peek_of_ne (s : State) (a : Word) (v : Byte) (x : Word) (h : x ≠ a) :
    (s.memWrite a v).peek x = s.peek x := by
  simp [State.memWrite_peek, h]

/-! ## The canonical form -/

theorem Memory.above_mono {a b : Nat} (h : a < b) : ∀ {m : Memory}, Memory.above b m = true → Memory.above a m = true
  | [], _ => rfl
  | (k, v) :: m, hm => by
    simp only [Memory.above, Bool.and_eq_true, decide_eq_true_eq] at *
    exact ⟨by omega, Memory.above_mono h hm.2⟩

theorem Memory.above_erase {a k : Nat} : ∀ {m : Memory}, Memory.above a m = true → Memory.above a (m.erase k) = true
  | [], _ => rfl
  | (j, v) :: m, hm => by
    simp only [Memory.above, Bool.and_eq_true, decide_eq_true_eq] at hm
    simp only [Memory.erase]
    split
    · exact Memory.above_erase hm.2
    · simp [Memory.above, hm.1, Memory.above_erase (k := k) hm.2]

theorem Memory.above_insert {a k : Nat} {v : Byte} (hk : a < k) :
    ∀ {m : Memory}, Memory.above a m = true → Memory.above a (m.insert k v) = true
  | [], _ => by simp [Memory.insert, Memory.above, hk]
  | (j, w) :: m, hm => by
    have hm' := hm
    simp only [Memory.above, Bool.and_eq_true, decide_eq_true_eq] at hm'
    simp only [Memory.insert]
    split
    · simp [Memory.above, hk, hm'.1, hm'.2]
    · split
      · simp [Memory.above, hk, hm'.2]
      · simp [Memory.above, hm'.1, Memory.above_insert (v := v) hk hm'.2]

theorem Memory.wf_erase {k : Nat} : ∀ {m : Memory}, m.wf = true → (m.erase k).wf = true
  | [], _ => rfl
  | (j, v) :: m, hm => by
    simp only [Memory.wf, Bool.and_eq_true] at hm
    simp only [Memory.erase]
    split
    · exact Memory.wf_erase hm.2
    · simp [Memory.wf, hm.1.1, Memory.above_erase (k := k) hm.1.2, Memory.wf_erase (k := k) hm.2]

theorem Memory.wf_insert {k : Nat} {v : Byte} (hk : Memory.cellOk (k, v) = true) :
    ∀ {m : Memory}, m.wf = true → (m.insert k v).wf = true
  | [], _ => by simp [Memory.insert, Memory.wf, Memory.above, hk]
  | (j, w) :: m, hm => by
    have hm' := hm
    simp only [Memory.wf, Bool.and_eq_true] at hm'
    simp only [Memory.insert]
    split
    · next h => simp [Memory.wf, hk, Memory.above, h, Memory.above_mono h hm'.1.2, hm'.1, hm'.2]
    · split
      · next h => subst h; simp [Memory.wf, hk, hm'.1.2, hm'.2]
      · next h h' =>
        simp [Memory.wf, hm'.1.1, Memory.above_insert (v := v) (show j < k by omega) hm'.1.2,
          Memory.wf_insert hk hm'.2]

/-- A put keeps the form at every address that may be listed: a zero byte is not listed, any other byte may be. -/
theorem Memory.wf_put {m : Memory} {a : Nat} {v : Byte} (hm : m.wf = true) (ha : a < 0x10000)
    (hr : (regionOf a).readsFF = false) : (m.put a v).wf = true := by
  unfold Memory.put
  split
  · exact Memory.wf_erase hm
  · next hv => exact Memory.wf_insert (by simpa [Memory.cellOk, Memory.unlisted, ha, hr] using hv) hm

/-- A bus write keeps the form. -/
theorem Memory.wf_write {m : Memory} (a : Word) (v : Byte) (hm : m.wf = true) : (m.write a v).wf = true := by
  unfold Memory.write
  split
  · next h => exact Memory.wf_put hm a.isLt (Region.readsFF_of_stores h)
  · exact hm

/-- A bus write keeps the form, whichever bus it is. -/
theorem Backend.wf_store {m : Memory} (b : Backend) (a : Word) (v : Byte) (hm : m.wf = true) :
    (b.store a v m).wf = true := by
  cases b
  · exact Memory.wf_write a v hm
  · exact hm

theorem regionOf_of_lt {a : Nat} (h : a < 0x8000) : regionOf a = .rom := by simp [regionOf, h]

theorem Memory.above_loadRom {a : Nat} :
    ∀ {at_ : Nat} {img : List Byte}, a < at_ → Memory.above a (Memory.loadRom at_ img) = true
  | _, [], _ => rfl
  | at_, v :: img, h => by
    have ih := Memory.above_loadRom (at_ := at_ + 1) (img := img) (show a < at_ + 1 by omega)
    simp only [Memory.loadRom]
    split
    · split
      · exact ih
      · simp [Memory.above, h, ih]
    · rfl

/-- Construction's memory has the form. -/
theorem Memory.wf_loadRom : ∀ (at_ : Nat) (img : List Byte), (Memory.loadRom at_ img).wf = true
  | _, [] => rfl
  | at_, v :: img => by
    have ih := Memory.wf_loadRom (at_ + 1) img
    simp only [Memory.loadRom]
    split
    · next h =>
      split
      · exact ih
      · next hv =>
        simpa [Memory.wf, Memory.cellOk, Memory.unlisted, regionOf_of_lt h, Region.readsFF, ih,
          Memory.above_loadRom (img := img) (show at_ < at_ + 1 by omega), show at_ < 65536 by omega] using hv
    · rfl

/-- What construction's memory holds. -/
theorem Memory.get_loadRom (a : Nat) :
    ∀ (at_ : Nat) (img : List Byte),
      (Memory.loadRom at_ img).get a = if at_ ≤ a ∧ a < 0x8000 then img.getD (a - at_) 0x00 else 0x00
  | at_, [] => by simp [Memory.loadRom, Memory.get]
  | at_, v :: img => by
    have ih := Memory.get_loadRom a (at_ + 1) img
    simp only [Memory.loadRom]
    by_cases hlt : at_ < 0x8000
    · rw [if_pos hlt]
      by_cases ha : a = at_
      · subst ha
        split <;> simp_all [Memory.get]
      · have hget : (if v = 0x00 then Memory.loadRom (at_ + 1) img else (at_, v) :: Memory.loadRom (at_ + 1) img).get a
            = (Memory.loadRom (at_ + 1) img).get a := by
          split <;> simp [Memory.get, Ne.symm ha]
        rw [hget, ih]
        by_cases hle : at_ + 1 ≤ a
        · rw [show a - at_ = (a - (at_ + 1)) + 1 by omega]
          simp [hle, show at_ ≤ a by omega]
        · simp [hle, show ¬at_ ≤ a by omega]
    · rw [if_neg hlt]
      simp [Memory.get, show ¬(at_ ≤ a ∧ a < 32768) by omega]

/-- The memory of `State.reset` lists nothing and has the form. -/
theorem reset_mem_wf : State.reset.mem = [] ∧ State.reset.mem.wf = true := ⟨rfl, rfl⟩

end Sys2Proof.Machine
end

