-- ==== Sys2Proof/Laws/Ops.lean ====
section
/-! SUPPORT. One lemma for each shared operation that says all of what it does: bit fields, operand accessors, the stack,
the flags, and the fetch. -/

namespace Sys2Proof.Machine

/-! ## Bit fields -/

theorem join_toNat (hi lo : Byte) : (join hi lo).toNat = 256 * hi.toNat + lo.toNat := by
  have h : (join hi lo).toNat = hi.toNat <<< 8 ||| lo.toNat := BitVec.toNat_append hi lo
  rw [h, Nat.shiftLeft_eq, Nat.mul_comm, ← Nat.two_pow_add_eq_or_of_lt (i := 8) lo.isLt hi.toNat]

theorem lo8_toNat (v : Word) : (lo8 v).toNat = v.toNat % 256 := by simp [lo8]

theorem hi8_toNat (v : Word) : (hi8 v).toNat = v.toNat / 256 := by
  simp [hi8, Nat.shiftRight_eq_div_pow]; omega

@[simp] theorem hi8_join (hi lo : Byte) : hi8 (join hi lo) = hi := by
  apply BitVec.eq_of_toNat_eq; rw [hi8_toNat, join_toNat]; omega

@[simp] theorem lo8_join (hi lo : Byte) : lo8 (join hi lo) = lo := by
  apply BitVec.eq_of_toNat_eq; rw [lo8_toNat, join_toNat]; omega

@[simp] theorem join_hi8_lo8 (v : Word) : join (hi8 v) (lo8 v) = v := by
  apply BitVec.eq_of_toNat_eq; rw [join_toNat, hi8_toNat, lo8_toNat]; omega

/-- Sign extension is `signed8` modulo 65536 (00_scope.md R14). -/
theorem add_sext16_toNat (x : Word) (n : Byte) : ((x + sext16 n).toNat : Int) = (x.toNat + signed8 n) % 65536 := by
  have hx := x.isLt
  have hn := n.isLt
  have h : (sext16 n).toNat = if n.toNat < 128 then n.toNat else n.toNat + 65280 := by
    simp only [sext16, BitVec.toNat_signExtend, BitVec.msb_eq_decide, BitVec.toNat_setWidth]
    by_cases h : n.toNat < 128
    · simp [h, show ¬128 ≤ n.toNat by omega]; omega
    · simp [h, show 128 ≤ n.toNat by omega]; omega
  rw [BitVec.toNat_add, h, signed8]
  split <;> omega

/-! ## The bus -/

@[simp] theorem Backend.afterAll_nil (b : Backend) : b.afterAll [] = b := rfl

@[simp] theorem Backend.afterAll_cons (b : Backend) (x : BusAccess) (xs : List BusAccess) :
    b.afterAll (x :: xs) = (b.after x).afterAll xs := rfl

@[simp] theorem Backend.afterAll_append (b : Backend) (xs ys : List BusAccess) :
    b.afterAll (xs ++ ys) = (b.afterAll xs).afterAll ys := by
  induction xs generalizing b with
  | nil => rfl
  | cons x xs ih => exact ih (b.after x)

/-- A substituted bus after some accesses has had them all, and has used up as many bytes as it was read. -/
theorem Backend.substituted_afterAll (xs : List BusAccess) (replies : List Byte) (past : List BusAccess) :
    (Backend.substituted replies past).afterAll xs =
      .substituted (replies.drop (readBytes xs).length) (past ++ xs) := by
  induction xs generalizing replies past with
  | nil => simp [readBytes]
  | cons x xs ih => cases x <;> simp [Backend.after, readBytes, ih, Nat.add_comm]

@[simp] theorem Backend.afterAll_eq_mmu (b : Backend) (xs : List BusAccess) : b.afterAll xs = .mmu ↔ b = .mmu := by
  induction xs generalizing b with
  | nil => rfl
  | cons x xs ih => simp [ih]

@[simp] theorem Backend.store_afterAll (b : Backend) (xs : List BusAccess) (a : Word) (v : Byte) (m : Memory) :
    (b.afterAll xs).store a v m = b.store a v m := by
  induction xs generalizing b with
  | nil => rfl
  | cons x xs ih => simp [ih]

/-- What the bus answers depends on the bus and the MMU's bytes alone. -/
theorem State.reply_congr {s t : State} (hm : t.mem = s.mem) (hb : t.backend = s.backend) (a : Word) :
    t.reply a = s.reply a := by simp only [State.reply, hm, hb]

theorem State.replyAfter_congr {s t : State} (hm : t.mem = s.mem) (hb : t.backend = s.backend) (a b : Word) :
    t.replyAfter a b = s.replyAfter a b := by
  simp only [State.replyAfter, State.memRead, State.noteAccess, State.reply, hm, hb]

/-- With the MMU no read has a side effect (20_memory.md R70). -/
@[simp] theorem State.replyAfter_mmu (s : State) (a b : Word) (h : s.backend = .mmu) : s.replyAfter a b = s.peek b := by
  have h' : (s.memRead a).2.backend = .mmu := by simp [State.memRead, h]
  exact (s.memRead a).2.reply_mmu b h'

/-! ## Operands -/

@[simp] theorem State.readR8_fst (s : State) (r : R8) : (s.readR8 r).1 = s.r8 r := by cases r <;> rfl

/-- `WriteR8` writes its destination. -/
theorem State.writeR8_written (s : State) (r : R8) (v : Byte) : Written s (s.writeR8 r v) r v := by
  cases r <;> simp [Written, State.writeR8, State.r8, State.afterWrite, State.memWrite_peek]

/-- `WriteR8` changes no other register, and no other byte. -/
theorem State.writeR8_frame (s : State) (r : R8) (v : Byte) : Frame s (s.writeR8 r v) r.regs (s.addrs r) := by
  constructor
  · intro x hx
    cases r <;> cases x <;> first | rfl | exact absurd (by decide) hx
  · intro x hx
    cases r <;> first | rfl | exact s.memWrite_peek_of_ne s.hl v x (by simpa [State.addrs] using hx)

@[simp] theorem State.writeR8_extra (s : State) (r : R8) (v : Byte) : (s.writeR8 r v).extra = s.extra := by
  cases r <;> rfl

@[simp] theorem State.writeR8_f (s : State) (r : R8) (v : Byte) : (s.writeR8 r v).f = s.f := by cases r <;> rfl

@[simp] theorem State.writeR8_bus (s : State) (r : R8) (v : Byte) :
    (s.writeR8 r v).bus = s.bus ++ s.writes r v := by
  cases r <;> simp [State.writeR8, State.writes]

@[simp] theorem State.readR16_writeR16 (s : State) (p : R16) (v : Word) : (s.writeR16 p v).readR16 p = v := by
  cases p <;> simp [State.readR16, State.writeR16, State.bc, State.de, State.hl]

/-- `WriteR16` changes its pair alone. -/
theorem State.writeR16_frame (s : State) (p : R16) (v : Word) : Frame s (s.writeR16 p v) p.regs [] := by
  refine ⟨fun x hx => ?_, fun x _ => by cases p <;> rfl⟩
  cases p <;> cases x <;> first | rfl | exact absurd (by decide) hx

@[simp] theorem State.writeR8_backend (s : State) (r : R8) (v : Byte) :
    (s.writeR8 r v).backend = s.backend.afterAll (s.writes r v) := by cases r <;> rfl

@[simp] theorem State.writeR16_bus (s : State) (p : R16) (v : Word) : (s.writeR16 p v).bus = s.bus := by
  cases p <;> rfl

@[simp] theorem State.writeR16_extra (s : State) (p : R16) (v : Word) : (s.writeR16 p v).extra = s.extra := by
  cases p <;> rfl

/-- `WriteR16s` changes its pair alone. -/
theorem State.writeR16s_frame (s : State) (q : R16s) (v : Word) : Frame s (s.writeR16s q v) q.regs [] := by
  refine ⟨fun x hx => ?_, fun x _ => by cases q <;> rfl⟩
  cases q <;> cases x <;> first | rfl | exact absurd (by decide) hx

@[simp] theorem State.writeR16s_bus (s : State) (q : R16s) (v : Word) : (s.writeR16s q v).bus = s.bus := by
  cases q <;> rfl

@[simp] theorem State.writeR16s_extra (s : State) (q : R16s) (v : Word) : (s.writeR16s q v).extra = s.extra := by
  cases q <;> rfl

/-! ## Flags -/

@[simp] theorem flagByte_low (z n h c : Bool) : flagByte z n h c &&& 0x0F#8 = 0#8 := by
  revert z n h c; decide

@[simp] theorem State.setFlags_zf (s : State) (z n h c : Bool) : (s.setFlags z n h c).zf = z := by
  change (flagByte z n h c).getLsbD 7 = z; revert z n h c; decide

@[simp] theorem State.setFlags_nf (s : State) (z n h c : Bool) : (s.setFlags z n h c).nf = n := by
  change (flagByte z n h c).getLsbD 6 = n; revert z n h c; decide

@[simp] theorem State.setFlags_hf (s : State) (z n h c : Bool) : (s.setFlags z n h c).hf = h := by
  change (flagByte z n h c).getLsbD 5 = h; revert z n h c; decide

@[simp] theorem State.setFlags_cf (s : State) (z n h c : Bool) : (s.setFlags z n h c).cf = c := by
  change (flagByte z n h c).getLsbD 4 = c; revert z n h c; decide

theorem setFlags_flagsAre (s : State) (z n h c : Bool) : FlagsAre (s.setFlags z n h c) z n h c :=
  ⟨s.setFlags_zf z n h c, s.setFlags_nf z n h c, s.setFlags_hf z n h c, s.setFlags_cf z n h c, flagByte_low z n h c⟩

@[simp] theorem and_F0_low (v : Byte) : v &&& 0xF0#8 &&& 0x0F#8 = 0#8 := by
  rw [BitVec.and_assoc]; simp

/-! ## The stack -/

/-- The whole effect of `Push16`. -/
theorem State.push16_eq (s : State) (v : Word) :
    s.push16 v = { s with
      sp := s.sp - 2
      mem := s.backend.store (s.sp - 2) (lo8 v) (s.backend.store (s.sp - 1) (hi8 v) s.mem)
      backend := (s.backend.after (.write (s.sp - 1) (hi8 v))).after (.write (s.sp - 2) (lo8 v))
      bus := s.bus ++ [.write (s.sp - 1) (hi8 v), .write (s.sp - 2) (lo8 v)] } := by
  have h : s.sp - 1 - 1 = s.sp - 2 := by rw [BitVec.sub_sub]; rfl
  simp only [State.push16, State.memWrite, State.setSP, h, Backend.store_after, List.append_assoc, List.cons_append,
    List.nil_append]

/-- The whole effect of `Pop16`. -/
theorem State.pop16_eq (s : State) :
    s.pop16 = (join (s.replyAfter s.sp (s.sp + 1)) (s.reply s.sp),
      { s with
        sp := s.sp + 2
        backend :=
          (s.backend.after (.read s.sp (s.reply s.sp))).after (.read (s.sp + 1) (s.replyAfter s.sp (s.sp + 1)))
        bus := s.bus ++ [.read s.sp (s.reply s.sp), .read (s.sp + 1) (s.replyAfter s.sp (s.sp + 1))] }) := by
  have h : s.sp + 1 + 1 = s.sp + 2 := by rw [BitVec.add_assoc]; rfl
  simp only [State.pop16, State.replyAfter, State.memRead, State.noteAccess, State.setSP, State.reply, h,
    List.append_assoc, List.cons_append, List.nil_append]

/-- The MMU's byte at each address after `Push16`. -/
theorem State.push16_peek (s : State) (v : Word) (x : Word) :
    (s.push16 v).peek x =
      if s.backend = .mmu ∧ x = s.sp - 2 ∧ (regionOf (s.sp - 2).toNat).stores = true then lo8 v
      else if s.backend = .mmu ∧ x = s.sp - 1 ∧ (regionOf (s.sp - 1).toNat).stores = true then hi8 v
      else s.peek x := by
  simp only [State.push16_eq, State.peek, Backend.store_read]

/-! ## The fetch -/

/-- What the bus answers to a read of `c` made just after one of `a` and one of `b`. -/
theorem State.replyAfter_memRead (s : State) (a b c : Word) :
    (s.memRead a).2.replyAfter b c = ((s.memRead a).2.memRead b).2.reply c := rfl

/-- The fetch of an instruction: its length is its first byte's, and its bytes are read in address order. -/
theorem State.fetchInstr_eq (s : State) :
    s.fetchInstr =
      let op := s.reply s.pc
      let b1 := s.replyAfter s.pc (s.pc + 1)
      let b2 := (s.memRead s.pc).2.replyAfter (s.pc + 1) (s.pc + 2)
      if instrLength op = 1 then (decode3 op 0 0, s.fetched [op])
      else if instrLength op = 2 then (decode3 op b1 0, s.fetched [op, b1])
      else (decode3 op b1 b2, s.fetched [op, b1, b2]) := by
  have h2 : s.pc + 1 + 1 = s.pc + 2 := by rw [BitVec.add_assoc]; rfl
  have h3 : s.pc + 2 + 1 = s.pc + 3 := by rw [BitVec.add_assoc]; rfl
  unfold State.fetchInstr
  simp only [State.fetch8, State.replyAfter, State.memRead, State.noteAccess, State.setPC, State.beginStep,
    State.fetched, fetchReads, State.reply, Backend.afterAll, h2, h3, List.cons_append, List.nil_append,
    List.length_cons, List.length_nil]
  split
  · next h => rw [if_pos h]; rfl
  · next h => rw [if_neg (by rw [h]; decide), if_pos h]; rfl
  · next h h' => rw [if_neg h, if_neg h']; rfl

end Sys2Proof.Machine
end

