-- ==== Sys2Proof/Laws/Accessors.lean ====
section
/-! SUPPORT. One lemma for each field after each composite operation: operand accessors, the stack, and the shared parts
of the meanings. -/

namespace Sys2Proof.Machine

@[simp] theorem State.memRead_fst (s : State) (a : Word) : (s.memRead a).1 = s.reply a := rfl

/-! ### `memRead` -/

@[simp] theorem State.memRead_a (s : State) (a : Word) : ((s.memRead a).2).a = s.a := rfl
@[simp] theorem State.memRead_f (s : State) (a : Word) : ((s.memRead a).2).f = s.f := rfl
@[simp] theorem State.memRead_b (s : State) (a : Word) : ((s.memRead a).2).b = s.b := rfl
@[simp] theorem State.memRead_c (s : State) (a : Word) : ((s.memRead a).2).c = s.c := rfl
@[simp] theorem State.memRead_d (s : State) (a : Word) : ((s.memRead a).2).d = s.d := rfl
@[simp] theorem State.memRead_e (s : State) (a : Word) : ((s.memRead a).2).e = s.e := rfl
@[simp] theorem State.memRead_h (s : State) (a : Word) : ((s.memRead a).2).h = s.h := rfl
@[simp] theorem State.memRead_l (s : State) (a : Word) : ((s.memRead a).2).l = s.l := rfl
@[simp] theorem State.memRead_sp (s : State) (a : Word) : ((s.memRead a).2).sp = s.sp := rfl
@[simp] theorem State.memRead_pc (s : State) (a : Word) : ((s.memRead a).2).pc = s.pc := rfl
@[simp] theorem State.memRead_ime (s : State) (a : Word) : ((s.memRead a).2).ime = s.ime := rfl
@[simp] theorem State.memRead_mem (s : State) (a : Word) : ((s.memRead a).2).mem = s.mem := rfl
@[simp] theorem State.memRead_backend (s : State) (a : Word) : ((s.memRead a).2).backend = s.backend.after (.read a (s.reply a)) := rfl
@[simp] theorem State.memRead_extra (s : State) (a : Word) : ((s.memRead a).2).extra = s.extra := rfl
@[simp] theorem State.memRead_cycles (s : State) (a : Word) : ((s.memRead a).2).cycles = s.cycles := rfl
@[simp] theorem State.memRead_bus (s : State) (a : Word) : ((s.memRead a).2).bus = s.bus ++ [.read a (s.reply a)] := rfl
@[simp] theorem State.memRead_bc (s : State) (a : Word) : ((s.memRead a).2).bc = s.bc := rfl
@[simp] theorem State.memRead_de (s : State) (a : Word) : ((s.memRead a).2).de = s.de := rfl
@[simp] theorem State.memRead_hl (s : State) (a : Word) : ((s.memRead a).2).hl = s.hl := rfl
@[simp] theorem State.memRead_af (s : State) (a : Word) : ((s.memRead a).2).af = s.af := rfl
@[simp] theorem State.memRead_zf (s : State) (a : Word) : ((s.memRead a).2).zf = s.zf := rfl
@[simp] theorem State.memRead_nf (s : State) (a : Word) : ((s.memRead a).2).nf = s.nf := rfl
@[simp] theorem State.memRead_hf (s : State) (a : Word) : ((s.memRead a).2).hf = s.hf := rfl
@[simp] theorem State.memRead_cf (s : State) (a : Word) : ((s.memRead a).2).cf = s.cf := rfl
@[simp] theorem State.memRead_peek (s : State) (a : Word) (x_ : Word) : ((s.memRead a).2).peek x_ = s.peek x_ := rfl

/-! ### `readR8` -/

@[simp] theorem State.readR8_a (s : State) (r : R8) : ((s.readR8 r).2).a = s.a := by cases r <;> rfl
@[simp] theorem State.readR8_f (s : State) (r : R8) : ((s.readR8 r).2).f = s.f := by cases r <;> rfl
@[simp] theorem State.readR8_b (s : State) (r : R8) : ((s.readR8 r).2).b = s.b := by cases r <;> rfl
@[simp] theorem State.readR8_c (s : State) (r : R8) : ((s.readR8 r).2).c = s.c := by cases r <;> rfl
@[simp] theorem State.readR8_d (s : State) (r : R8) : ((s.readR8 r).2).d = s.d := by cases r <;> rfl
@[simp] theorem State.readR8_e (s : State) (r : R8) : ((s.readR8 r).2).e = s.e := by cases r <;> rfl
@[simp] theorem State.readR8_h (s : State) (r : R8) : ((s.readR8 r).2).h = s.h := by cases r <;> rfl
@[simp] theorem State.readR8_l (s : State) (r : R8) : ((s.readR8 r).2).l = s.l := by cases r <;> rfl
@[simp] theorem State.readR8_sp (s : State) (r : R8) : ((s.readR8 r).2).sp = s.sp := by cases r <;> rfl
@[simp] theorem State.readR8_pc (s : State) (r : R8) : ((s.readR8 r).2).pc = s.pc := by cases r <;> rfl
@[simp] theorem State.readR8_ime (s : State) (r : R8) : ((s.readR8 r).2).ime = s.ime := by cases r <;> rfl
@[simp] theorem State.readR8_mem (s : State) (r : R8) : ((s.readR8 r).2).mem = s.mem := by cases r <;> rfl
@[simp] theorem State.readR8_extra (s : State) (r : R8) : ((s.readR8 r).2).extra = s.extra := by cases r <;> rfl
@[simp] theorem State.readR8_cycles (s : State) (r : R8) : ((s.readR8 r).2).cycles = s.cycles := by cases r <;> rfl
@[simp] theorem State.readR8_bc (s : State) (r : R8) : ((s.readR8 r).2).bc = s.bc := by cases r <;> rfl
@[simp] theorem State.readR8_de (s : State) (r : R8) : ((s.readR8 r).2).de = s.de := by cases r <;> rfl
@[simp] theorem State.readR8_hl (s : State) (r : R8) : ((s.readR8 r).2).hl = s.hl := by cases r <;> rfl
@[simp] theorem State.readR8_af (s : State) (r : R8) : ((s.readR8 r).2).af = s.af := by cases r <;> rfl
@[simp] theorem State.readR8_zf (s : State) (r : R8) : ((s.readR8 r).2).zf = s.zf := by cases r <;> rfl
@[simp] theorem State.readR8_nf (s : State) (r : R8) : ((s.readR8 r).2).nf = s.nf := by cases r <;> rfl
@[simp] theorem State.readR8_hf (s : State) (r : R8) : ((s.readR8 r).2).hf = s.hf := by cases r <;> rfl
@[simp] theorem State.readR8_cf (s : State) (r : R8) : ((s.readR8 r).2).cf = s.cf := by cases r <;> rfl
@[simp] theorem State.readR8_peek (s : State) (r : R8) (x_ : Word) : ((s.readR8 r).2).peek x_ = s.peek x_ := by cases r <;> rfl

@[simp] theorem State.readR8_bus (s : State) (r : R8) : (s.readR8 r).2.bus = s.bus ++ s.reads r := by
  cases r <;> first | rfl | exact (List.append_nil _).symm

@[simp] theorem State.writeR8_mem (s : State) (r : R8) (v : Byte) :
    (s.writeR8 r v).mem = if r = .atHL then s.backend.store s.hl v s.mem else s.mem := by cases r <;> rfl

@[simp] theorem State.readR8_backend (s : State) (r : R8) : (s.readR8 r).2.backend = s.backend.afterAll (s.reads r) := by
  cases r <;> rfl

@[simp] theorem State.writeR16s_f (s : State) (q : R16s) (v : Word) :
    (s.writeR16s q v).f = if q = .af then lo8 v &&& 0xF0#8 else s.f := by cases q <;> rfl

/-! ### `writeR8` -/

@[simp] theorem State.writeR8_sp (s : State) (r : R8) (v : Byte) : (s.writeR8 r v).sp = s.sp := by cases r <;> rfl
@[simp] theorem State.writeR8_pc (s : State) (r : R8) (v : Byte) : (s.writeR8 r v).pc = s.pc := by cases r <;> rfl
@[simp] theorem State.writeR8_ime (s : State) (r : R8) (v : Byte) : (s.writeR8 r v).ime = s.ime := by cases r <;> rfl
@[simp] theorem State.writeR8_cycles (s : State) (r : R8) (v : Byte) : (s.writeR8 r v).cycles = s.cycles := by cases r <;> rfl

/-! ### `writeR16` -/

@[simp] theorem State.writeR16_a (s : State) (p : R16) (v : Word) : (s.writeR16 p v).a = s.a := by cases p <;> rfl
@[simp] theorem State.writeR16_f (s : State) (p : R16) (v : Word) : (s.writeR16 p v).f = s.f := by cases p <;> rfl
@[simp] theorem State.writeR16_pc (s : State) (p : R16) (v : Word) : (s.writeR16 p v).pc = s.pc := by cases p <;> rfl
@[simp] theorem State.writeR16_ime (s : State) (p : R16) (v : Word) : (s.writeR16 p v).ime = s.ime := by cases p <;> rfl
@[simp] theorem State.writeR16_mem (s : State) (p : R16) (v : Word) : (s.writeR16 p v).mem = s.mem := by cases p <;> rfl
@[simp] theorem State.writeR16_backend (s : State) (p : R16) (v : Word) : (s.writeR16 p v).backend = s.backend := by cases p <;> rfl
@[simp] theorem State.writeR16_cycles (s : State) (p : R16) (v : Word) : (s.writeR16 p v).cycles = s.cycles := by cases p <;> rfl
@[simp] theorem State.writeR16_af (s : State) (p : R16) (v : Word) : (s.writeR16 p v).af = s.af := by cases p <;> rfl
@[simp] theorem State.writeR16_zf (s : State) (p : R16) (v : Word) : (s.writeR16 p v).zf = s.zf := by cases p <;> rfl
@[simp] theorem State.writeR16_nf (s : State) (p : R16) (v : Word) : (s.writeR16 p v).nf = s.nf := by cases p <;> rfl
@[simp] theorem State.writeR16_hf (s : State) (p : R16) (v : Word) : (s.writeR16 p v).hf = s.hf := by cases p <;> rfl
@[simp] theorem State.writeR16_cf (s : State) (p : R16) (v : Word) : (s.writeR16 p v).cf = s.cf := by cases p <;> rfl
@[simp] theorem State.writeR16_peek (s : State) (p : R16) (v : Word) (x_ : Word) : (s.writeR16 p v).peek x_ = s.peek x_ := by cases p <;> rfl
@[simp] theorem State.writeR16_reply (s : State) (p : R16) (v : Word) (x_ : Word) : (s.writeR16 p v).reply x_ = s.reply x_ := by cases p <;> rfl

/-! ### `writeR16s` -/

@[simp] theorem State.writeR16s_sp (s : State) (q : R16s) (v : Word) : (s.writeR16s q v).sp = s.sp := by cases q <;> rfl
@[simp] theorem State.writeR16s_pc (s : State) (q : R16s) (v : Word) : (s.writeR16s q v).pc = s.pc := by cases q <;> rfl
@[simp] theorem State.writeR16s_ime (s : State) (q : R16s) (v : Word) : (s.writeR16s q v).ime = s.ime := by cases q <;> rfl
@[simp] theorem State.writeR16s_mem (s : State) (q : R16s) (v : Word) : (s.writeR16s q v).mem = s.mem := by cases q <;> rfl
@[simp] theorem State.writeR16s_backend (s : State) (q : R16s) (v : Word) : (s.writeR16s q v).backend = s.backend := by cases q <;> rfl
@[simp] theorem State.writeR16s_cycles (s : State) (q : R16s) (v : Word) : (s.writeR16s q v).cycles = s.cycles := by cases q <;> rfl
@[simp] theorem State.writeR16s_peek (s : State) (q : R16s) (v : Word) (x_ : Word) : (s.writeR16s q v).peek x_ = s.peek x_ := by cases q <;> rfl
@[simp] theorem State.writeR16s_reply (s : State) (q : R16s) (v : Word) (x_ : Word) : (s.writeR16s q v).reply x_ = s.reply x_ := by cases q <;> rfl

/-! ### `push16` -/

@[simp] theorem State.push16_a (s : State) (v : Word) : (s.push16 v).a = s.a := by rw [State.push16_eq]
@[simp] theorem State.push16_f (s : State) (v : Word) : (s.push16 v).f = s.f := by rw [State.push16_eq]
@[simp] theorem State.push16_b (s : State) (v : Word) : (s.push16 v).b = s.b := by rw [State.push16_eq]
@[simp] theorem State.push16_c (s : State) (v : Word) : (s.push16 v).c = s.c := by rw [State.push16_eq]
@[simp] theorem State.push16_d (s : State) (v : Word) : (s.push16 v).d = s.d := by rw [State.push16_eq]
@[simp] theorem State.push16_e (s : State) (v : Word) : (s.push16 v).e = s.e := by rw [State.push16_eq]
@[simp] theorem State.push16_h (s : State) (v : Word) : (s.push16 v).h = s.h := by rw [State.push16_eq]
@[simp] theorem State.push16_l (s : State) (v : Word) : (s.push16 v).l = s.l := by rw [State.push16_eq]
@[simp] theorem State.push16_sp (s : State) (v : Word) : (s.push16 v).sp = s.sp - 2 := by rw [State.push16_eq]
@[simp] theorem State.push16_pc (s : State) (v : Word) : (s.push16 v).pc = s.pc := by rw [State.push16_eq]
@[simp] theorem State.push16_ime (s : State) (v : Word) : (s.push16 v).ime = s.ime := by rw [State.push16_eq]
@[simp] theorem State.push16_mem (s : State) (v : Word) : (s.push16 v).mem = s.backend.store (s.sp - 2) (lo8 v) (s.backend.store (s.sp - 1) (hi8 v) s.mem) := by rw [State.push16_eq]
@[simp] theorem State.push16_backend (s : State) (v : Word) : (s.push16 v).backend = (s.backend.after (.write (s.sp - 1) (hi8 v))).after (.write (s.sp - 2) (lo8 v)) := by rw [State.push16_eq]
@[simp] theorem State.push16_extra (s : State) (v : Word) : (s.push16 v).extra = s.extra := by rw [State.push16_eq]
@[simp] theorem State.push16_cycles (s : State) (v : Word) : (s.push16 v).cycles = s.cycles := by rw [State.push16_eq]
@[simp] theorem State.push16_bus (s : State) (v : Word) : (s.push16 v).bus = s.bus ++ [.write (s.sp - 1) (hi8 v), .write (s.sp - 2) (lo8 v)] := by rw [State.push16_eq]
@[simp] theorem State.push16_bc (s : State) (v : Word) : (s.push16 v).bc = s.bc := rfl
@[simp] theorem State.push16_de (s : State) (v : Word) : (s.push16 v).de = s.de := rfl
@[simp] theorem State.push16_hl (s : State) (v : Word) : (s.push16 v).hl = s.hl := rfl
@[simp] theorem State.push16_af (s : State) (v : Word) : (s.push16 v).af = s.af := rfl
@[simp] theorem State.push16_zf (s : State) (v : Word) : (s.push16 v).zf = s.zf := rfl
@[simp] theorem State.push16_nf (s : State) (v : Word) : (s.push16 v).nf = s.nf := rfl
@[simp] theorem State.push16_hf (s : State) (v : Word) : (s.push16 v).hf = s.hf := rfl
@[simp] theorem State.push16_cf (s : State) (v : Word) : (s.push16 v).cf = s.cf := rfl

@[simp] theorem State.pop16_fst (s : State) : s.pop16.1 = join (s.replyAfter s.sp (s.sp + 1)) (s.reply s.sp) := rfl

/-! ### `pop16` -/

@[simp] theorem State.pop16_a (s : State) : (s.pop16.2).a = s.a := by rw [State.pop16_eq]
@[simp] theorem State.pop16_f (s : State) : (s.pop16.2).f = s.f := by rw [State.pop16_eq]
@[simp] theorem State.pop16_b (s : State) : (s.pop16.2).b = s.b := by rw [State.pop16_eq]
@[simp] theorem State.pop16_c (s : State) : (s.pop16.2).c = s.c := by rw [State.pop16_eq]
@[simp] theorem State.pop16_d (s : State) : (s.pop16.2).d = s.d := by rw [State.pop16_eq]
@[simp] theorem State.pop16_e (s : State) : (s.pop16.2).e = s.e := by rw [State.pop16_eq]
@[simp] theorem State.pop16_h (s : State) : (s.pop16.2).h = s.h := by rw [State.pop16_eq]
@[simp] theorem State.pop16_l (s : State) : (s.pop16.2).l = s.l := by rw [State.pop16_eq]
@[simp] theorem State.pop16_sp (s : State) : (s.pop16.2).sp = s.sp + 2 := by rw [State.pop16_eq]
@[simp] theorem State.pop16_pc (s : State) : (s.pop16.2).pc = s.pc := by rw [State.pop16_eq]
@[simp] theorem State.pop16_ime (s : State) : (s.pop16.2).ime = s.ime := by rw [State.pop16_eq]
@[simp] theorem State.pop16_mem (s : State) : (s.pop16.2).mem = s.mem := by rw [State.pop16_eq]
@[simp] theorem State.pop16_backend (s : State) : (s.pop16.2).backend = (s.backend.after (.read s.sp (s.reply s.sp))).after (.read (s.sp + 1) (s.replyAfter s.sp (s.sp + 1))) := by rw [State.pop16_eq]
@[simp] theorem State.pop16_extra (s : State) : (s.pop16.2).extra = s.extra := by rw [State.pop16_eq]
@[simp] theorem State.pop16_cycles (s : State) : (s.pop16.2).cycles = s.cycles := by rw [State.pop16_eq]
@[simp] theorem State.pop16_bus (s : State) : (s.pop16.2).bus = s.bus ++ [.read s.sp (s.reply s.sp), .read (s.sp + 1) (s.replyAfter s.sp (s.sp + 1))] := by rw [State.pop16_eq]
@[simp] theorem State.pop16_bc (s : State) : (s.pop16.2).bc = s.bc := rfl
@[simp] theorem State.pop16_de (s : State) : (s.pop16.2).de = s.de := rfl
@[simp] theorem State.pop16_hl (s : State) : (s.pop16.2).hl = s.hl := rfl
@[simp] theorem State.pop16_af (s : State) : (s.pop16.2).af = s.af := rfl
@[simp] theorem State.pop16_zf (s : State) : (s.pop16.2).zf = s.zf := rfl
@[simp] theorem State.pop16_nf (s : State) : (s.pop16.2).nf = s.nf := rfl
@[simp] theorem State.pop16_hf (s : State) : (s.pop16.2).hf = s.hf := rfl
@[simp] theorem State.pop16_cf (s : State) : (s.pop16.2).cf = s.cf := rfl
@[simp] theorem State.pop16_peek (s : State) (x_ : Word) : (s.pop16.2).peek x_ = s.peek x_ := rfl

/-! ### `callTo` -/

@[simp] theorem State.callTo_a (s : State) (v : Word) : (s.callTo v).a = s.a := by
  simp [State.callTo]
@[simp] theorem State.callTo_f (s : State) (v : Word) : (s.callTo v).f = s.f := by
  simp [State.callTo]
@[simp] theorem State.callTo_b (s : State) (v : Word) : (s.callTo v).b = s.b := by
  simp [State.callTo]
@[simp] theorem State.callTo_c (s : State) (v : Word) : (s.callTo v).c = s.c := by
  simp [State.callTo]
@[simp] theorem State.callTo_d (s : State) (v : Word) : (s.callTo v).d = s.d := by
  simp [State.callTo]
@[simp] theorem State.callTo_e (s : State) (v : Word) : (s.callTo v).e = s.e := by
  simp [State.callTo]
@[simp] theorem State.callTo_h (s : State) (v : Word) : (s.callTo v).h = s.h := by
  simp [State.callTo]
@[simp] theorem State.callTo_l (s : State) (v : Word) : (s.callTo v).l = s.l := by
  simp [State.callTo]
@[simp] theorem State.callTo_sp (s : State) (v : Word) : (s.callTo v).sp = s.sp - 2 := by
  simp [State.callTo]
@[simp] theorem State.callTo_pc (s : State) (v : Word) : (s.callTo v).pc = v := by
  simp [State.callTo]
@[simp] theorem State.callTo_ime (s : State) (v : Word) : (s.callTo v).ime = s.ime := by
  simp [State.callTo]
@[simp] theorem State.callTo_mem (s : State) (v : Word) : (s.callTo v).mem = s.backend.store (s.sp - 2) (lo8 s.pc) (s.backend.store (s.sp - 1) (hi8 s.pc) s.mem) := by
  simp [State.callTo]
@[simp] theorem State.callTo_backend (s : State) (v : Word) : (s.callTo v).backend = (s.backend.after (.write (s.sp - 1) (hi8 s.pc))).after (.write (s.sp - 2) (lo8 s.pc)) := by
  simp [State.callTo]
@[simp] theorem State.callTo_extra (s : State) (v : Word) : (s.callTo v).extra = s.extra := by
  simp [State.callTo]
@[simp] theorem State.callTo_cycles (s : State) (v : Word) : (s.callTo v).cycles = s.cycles := by
  simp [State.callTo]
@[simp] theorem State.callTo_bus (s : State) (v : Word) : (s.callTo v).bus = s.bus ++ [.write (s.sp - 1) (hi8 s.pc), .write (s.sp - 2) (lo8 s.pc)] := by
  simp [State.callTo]
@[simp] theorem State.callTo_bc (s : State) (v : Word) : (s.callTo v).bc = s.bc := by
  simp [State.callTo]
@[simp] theorem State.callTo_de (s : State) (v : Word) : (s.callTo v).de = s.de := by
  simp [State.callTo]
@[simp] theorem State.callTo_hl (s : State) (v : Word) : (s.callTo v).hl = s.hl := by
  simp [State.callTo]
@[simp] theorem State.callTo_af (s : State) (v : Word) : (s.callTo v).af = s.af := by
  simp [State.callTo]
@[simp] theorem State.callTo_zf (s : State) (v : Word) : (s.callTo v).zf = s.zf := by
  simp [State.callTo]
@[simp] theorem State.callTo_nf (s : State) (v : Word) : (s.callTo v).nf = s.nf := by
  simp [State.callTo]
@[simp] theorem State.callTo_hf (s : State) (v : Word) : (s.callTo v).hf = s.hf := by
  simp [State.callTo]
@[simp] theorem State.callTo_cf (s : State) (v : Word) : (s.callTo v).cf = s.cf := by
  simp [State.callTo]

/-! ### `popPC` -/

@[simp] theorem State.popPC_a (s : State) : (s.popPC).a = s.a := by simp [State.popPC]
@[simp] theorem State.popPC_f (s : State) : (s.popPC).f = s.f := by simp [State.popPC]
@[simp] theorem State.popPC_b (s : State) : (s.popPC).b = s.b := by simp [State.popPC]
@[simp] theorem State.popPC_c (s : State) : (s.popPC).c = s.c := by simp [State.popPC]
@[simp] theorem State.popPC_d (s : State) : (s.popPC).d = s.d := by simp [State.popPC]
@[simp] theorem State.popPC_e (s : State) : (s.popPC).e = s.e := by simp [State.popPC]
@[simp] theorem State.popPC_h (s : State) : (s.popPC).h = s.h := by simp [State.popPC]
@[simp] theorem State.popPC_l (s : State) : (s.popPC).l = s.l := by simp [State.popPC]
@[simp] theorem State.popPC_sp (s : State) : (s.popPC).sp = s.sp + 2 := by simp [State.popPC]
@[simp] theorem State.popPC_pc (s : State) : (s.popPC).pc = join (s.replyAfter s.sp (s.sp + 1)) (s.reply s.sp) := by simp [State.popPC]
@[simp] theorem State.popPC_ime (s : State) : (s.popPC).ime = s.ime := by simp [State.popPC]
@[simp] theorem State.popPC_mem (s : State) : (s.popPC).mem = s.mem := by simp [State.popPC]
@[simp] theorem State.popPC_backend (s : State) : (s.popPC).backend = (s.backend.after (.read s.sp (s.reply s.sp))).after (.read (s.sp + 1) (s.replyAfter s.sp (s.sp + 1))) := by simp [State.popPC]
@[simp] theorem State.popPC_extra (s : State) : (s.popPC).extra = s.extra := by simp [State.popPC]
@[simp] theorem State.popPC_cycles (s : State) : (s.popPC).cycles = s.cycles := by simp [State.popPC]
@[simp] theorem State.popPC_bus (s : State) : (s.popPC).bus = s.bus ++ [.read s.sp (s.reply s.sp), .read (s.sp + 1) (s.replyAfter s.sp (s.sp + 1))] := by simp [State.popPC]
@[simp] theorem State.popPC_bc (s : State) : (s.popPC).bc = s.bc := by simp [State.popPC]
@[simp] theorem State.popPC_de (s : State) : (s.popPC).de = s.de := by simp [State.popPC]
@[simp] theorem State.popPC_hl (s : State) : (s.popPC).hl = s.hl := by simp [State.popPC]
@[simp] theorem State.popPC_af (s : State) : (s.popPC).af = s.af := by simp [State.popPC]
@[simp] theorem State.popPC_zf (s : State) : (s.popPC).zf = s.zf := by simp [State.popPC]
@[simp] theorem State.popPC_nf (s : State) : (s.popPC).nf = s.nf := by simp [State.popPC]
@[simp] theorem State.popPC_hf (s : State) : (s.popPC).hf = s.hf := by simp [State.popPC]
@[simp] theorem State.popPC_cf (s : State) : (s.popPC).cf = s.cf := by simp [State.popPC]
@[simp] theorem State.popPC_peek (s : State) (x_ : Word) : (s.popPC).peek x_ = s.peek x_ := by simp [State.popPC]

/-! ### `applyAlu` -/

@[simp] theorem State.applyAlu_a (s : State) (k : AluOp) (b : Byte) : (s.applyAlu k b).a = (alu k s.a b s.cf).1 := rfl
@[simp] theorem State.applyAlu_f (s : State) (k : AluOp) (b : Byte) : (s.applyAlu k b).f = flagByte (alu k s.a b s.cf).2.z (alu k s.a b s.cf).2.n (alu k s.a b s.cf).2.h (alu k s.a b s.cf).2.c := rfl
@[simp] theorem State.applyAlu_b (s : State) (k : AluOp) (b : Byte) : (s.applyAlu k b).b = s.b := rfl
@[simp] theorem State.applyAlu_c (s : State) (k : AluOp) (b : Byte) : (s.applyAlu k b).c = s.c := rfl
@[simp] theorem State.applyAlu_d (s : State) (k : AluOp) (b : Byte) : (s.applyAlu k b).d = s.d := rfl
@[simp] theorem State.applyAlu_e (s : State) (k : AluOp) (b : Byte) : (s.applyAlu k b).e = s.e := rfl
@[simp] theorem State.applyAlu_h (s : State) (k : AluOp) (b : Byte) : (s.applyAlu k b).h = s.h := rfl
@[simp] theorem State.applyAlu_l (s : State) (k : AluOp) (b : Byte) : (s.applyAlu k b).l = s.l := rfl
@[simp] theorem State.applyAlu_sp (s : State) (k : AluOp) (b : Byte) : (s.applyAlu k b).sp = s.sp := rfl
@[simp] theorem State.applyAlu_pc (s : State) (k : AluOp) (b : Byte) : (s.applyAlu k b).pc = s.pc := rfl
@[simp] theorem State.applyAlu_ime (s : State) (k : AluOp) (b : Byte) : (s.applyAlu k b).ime = s.ime := rfl
@[simp] theorem State.applyAlu_mem (s : State) (k : AluOp) (b : Byte) : (s.applyAlu k b).mem = s.mem := rfl
@[simp] theorem State.applyAlu_backend (s : State) (k : AluOp) (b : Byte) : (s.applyAlu k b).backend = s.backend := rfl
@[simp] theorem State.applyAlu_extra (s : State) (k : AluOp) (b : Byte) : (s.applyAlu k b).extra = s.extra := rfl
@[simp] theorem State.applyAlu_cycles (s : State) (k : AluOp) (b : Byte) : (s.applyAlu k b).cycles = s.cycles := rfl
@[simp] theorem State.applyAlu_bus (s : State) (k : AluOp) (b : Byte) : (s.applyAlu k b).bus = s.bus := rfl
@[simp] theorem State.applyAlu_bc (s : State) (k : AluOp) (b : Byte) : (s.applyAlu k b).bc = s.bc := rfl
@[simp] theorem State.applyAlu_de (s : State) (k : AluOp) (b : Byte) : (s.applyAlu k b).de = s.de := rfl
@[simp] theorem State.applyAlu_hl (s : State) (k : AluOp) (b : Byte) : (s.applyAlu k b).hl = s.hl := rfl
@[simp] theorem State.applyAlu_peek (s : State) (k : AluOp) (b : Byte) (x_ : Word) : (s.applyAlu k b).peek x_ = s.peek x_ := rfl
@[simp] theorem State.applyAlu_reply (s : State) (k : AluOp) (b : Byte) (x_ : Word) : (s.applyAlu k b).reply x_ = s.reply x_ := rfl

/-! ### `onBus` -/

@[simp] theorem State.onBus_a (s : State) (m : Memory) (bus : Backend) : (s.onBus m bus).a = s.a := rfl
@[simp] theorem State.onBus_f (s : State) (m : Memory) (bus : Backend) : (s.onBus m bus).f = s.f := rfl
@[simp] theorem State.onBus_b (s : State) (m : Memory) (bus : Backend) : (s.onBus m bus).b = s.b := rfl
@[simp] theorem State.onBus_c (s : State) (m : Memory) (bus : Backend) : (s.onBus m bus).c = s.c := rfl
@[simp] theorem State.onBus_d (s : State) (m : Memory) (bus : Backend) : (s.onBus m bus).d = s.d := rfl
@[simp] theorem State.onBus_e (s : State) (m : Memory) (bus : Backend) : (s.onBus m bus).e = s.e := rfl
@[simp] theorem State.onBus_h (s : State) (m : Memory) (bus : Backend) : (s.onBus m bus).h = s.h := rfl
@[simp] theorem State.onBus_l (s : State) (m : Memory) (bus : Backend) : (s.onBus m bus).l = s.l := rfl
@[simp] theorem State.onBus_sp (s : State) (m : Memory) (bus : Backend) : (s.onBus m bus).sp = s.sp := rfl
@[simp] theorem State.onBus_pc (s : State) (m : Memory) (bus : Backend) : (s.onBus m bus).pc = s.pc := rfl
@[simp] theorem State.onBus_ime (s : State) (m : Memory) (bus : Backend) : (s.onBus m bus).ime = s.ime := rfl
@[simp] theorem State.onBus_extra (s : State) (m : Memory) (bus : Backend) : (s.onBus m bus).extra = s.extra := rfl
@[simp] theorem State.onBus_cycles (s : State) (m : Memory) (bus : Backend) : (s.onBus m bus).cycles = s.cycles := rfl
@[simp] theorem State.onBus_bus (s : State) (m : Memory) (bus : Backend) : (s.onBus m bus).bus = s.bus := rfl
@[simp] theorem State.onBus_bc (s : State) (m : Memory) (bus : Backend) : (s.onBus m bus).bc = s.bc := rfl
@[simp] theorem State.onBus_de (s : State) (m : Memory) (bus : Backend) : (s.onBus m bus).de = s.de := rfl
@[simp] theorem State.onBus_hl (s : State) (m : Memory) (bus : Backend) : (s.onBus m bus).hl = s.hl := rfl
@[simp] theorem State.onBus_af (s : State) (m : Memory) (bus : Backend) : (s.onBus m bus).af = s.af := rfl
@[simp] theorem State.onBus_zf (s : State) (m : Memory) (bus : Backend) : (s.onBus m bus).zf = s.zf := rfl
@[simp] theorem State.onBus_nf (s : State) (m : Memory) (bus : Backend) : (s.onBus m bus).nf = s.nf := rfl
@[simp] theorem State.onBus_hf (s : State) (m : Memory) (bus : Backend) : (s.onBus m bus).hf = s.hf := rfl
@[simp] theorem State.onBus_cf (s : State) (m : Memory) (bus : Backend) : (s.onBus m bus).cf = s.cf := rfl
@[simp] theorem State.onBus_mem (s : State) (m : Memory) (bus : Backend) : (s.onBus m bus).mem = m := rfl
@[simp] theorem State.onBus_backend (s : State) (m : Memory) (bus : Backend) : (s.onBus m bus).backend = bus := rfl

/-! ### Pairs -/

@[simp] theorem State.setBC_bc (s : State) (v : Word) : (s.setBC v).bc = v := by simp [State.bc]

@[simp] theorem State.setDE_de (s : State) (v : Word) : (s.setDE v).de = v := by simp [State.de]

@[simp] theorem State.setHL_hl (s : State) (v : Word) : (s.setHL v).hl = v := by simp [State.hl]

/-- A stack pair other than AF reads back what is written. -/
theorem State.readR16s_writeR16s (s : State) (q : R16s) (v : Word) (h : q ≠ .af) :
    (s.writeR16s q v).readR16s q = v := by
  cases q <;> first | exact absurd rfl h | simp [State.readR16s, State.writeR16s]

@[simp] theorem State.retire_readR16 (s : State) (k : Nat) (p : R16) : (s.retire k).readR16 p = s.readR16 p := by
  cases p <;> rfl

@[simp] theorem State.retire_readR16s (s : State) (k : Nat) (q : R16s) : (s.retire k).readR16s q = s.readR16s q := by
  cases q <;> rfl

@[simp] theorem State.retire_r8 (s : State) (k : Nat) (r : R8) : (s.retire k).r8 r = s.r8 r := by cases r <;> rfl

@[simp] theorem State.addExtra_r8 (s : State) (k : Nat) (r : R8) : (s.addExtra k).r8 r = s.r8 r := by cases r <;> rfl

@[simp] theorem State.setFlags_r8 (s : State) (z n h c : Bool) (r : R8) : (s.setFlags z n h c).r8 r = s.r8 r := by
  cases r <;> rfl

@[simp] theorem State.readR8_addrs (s : State) (r q : R8) : (s.readR8 r).2.addrs q = s.addrs q := by
  simp [State.addrs]

@[simp] theorem State.readR8_writes (s : State) (r q : R8) (v : Byte) :
    (s.readR8 r).2.writes q v = s.writes q v := by simp [State.writes]

end Sys2Proof.Machine
end

