-- ==== Sys2Proof/Laws/Families.lean ====
section
/-! SUPPORT. The rows of a form run its shared operation; every instruction runs one of the shared operations; every
instruction belongs to one of the forms. -/

namespace Sys2Proof.Machine

/-! ## The meaning of each form -/

theorem exec_ofLdRR (dst src : R8) (s : State) (h : ¬(dst = .atHL ∧ src = .atHL)) :
    exec (.ofLdRR dst src) s = copyR8 dst src s := by
  cases dst <;> cases src <;> first | rfl | exact absurd ⟨rfl, rfl⟩ h

@[simp] theorem exec_ofLdRN (dst : R8) (n : Byte) (s : State) : exec (.ofLdRN dst n) s = loadImm dst n s := by
  cases dst <;> rfl

@[simp] theorem exec_ofLdR16 (p : R16) (nn : Word) (s : State) : exec (.ofLdR16 p nn) s = loadR16 p nn s := by
  cases p <;> rfl

@[simp] theorem exec_ofPush (q : R16s) (s : State) : exec (.ofPush q) s = pushR16 q s := by cases q <;> rfl

@[simp] theorem exec_ofPop (q : R16s) (s : State) : exec (.ofPop q) s = popR16 q s := by cases q <;> rfl

@[simp] theorem exec_ofAluR (k : AluOp) (r : R8) (s : State) : exec (.ofAluR k r) s = aluR8 k r s := by
  cases k <;> cases r <;> rfl

@[simp] theorem exec_ofAluN (k : AluOp) (n : Byte) (s : State) : exec (.ofAluN k n) s = aluImm k n s := by
  cases k <;> rfl

@[simp] theorem exec_ofIncR (r : R8) (s : State) : exec (.ofIncR r) s = incR8 r s := by cases r <;> rfl

@[simp] theorem exec_ofDecR (r : R8) (s : State) : exec (.ofDecR r) s = decR8 r s := by cases r <;> rfl

@[simp] theorem exec_ofIncRR (p : R16) (s : State) : exec (.ofIncRR p) s = incR16 p s := by cases p <;> rfl

@[simp] theorem exec_ofDecRR (p : R16) (s : State) : exec (.ofDecRR p) s = decR16 p s := by cases p <;> rfl

@[simp] theorem exec_ofAddHL (p : R16) (s : State) : exec (.ofAddHL p) s = addToHL p s := by cases p <;> rfl

@[simp] theorem exec_ofShift (t : ShiftOp) (r : R8) (s : State) : exec (.ofShift t r) s = cbShift t r s := by
  cases t <;> rfl

@[simp] theorem exec_ofJpCC (cc : Cond) (nn : Word) (s : State) : exec (.ofJpCC cc nn) s = jumpIf cc nn s := by
  cases cc <;> rfl

@[simp] theorem exec_ofJrCC (cc : Cond) (n : Byte) (s : State) : exec (.ofJrCC cc n) s = jumpRelIf cc n s := by
  cases cc <;> rfl

@[simp] theorem exec_ofCallCC (cc : Cond) (nn : Word) (s : State) : exec (.ofCallCC cc nn) s = callIf cc nn s := by
  cases cc <;> rfl

@[simp] theorem exec_ofRetCC (cc : Cond) (s : State) : exec (.ofRetCC cc) s = returnIf cc s := by cases cc <;> rfl

@[simp] theorem exec_ofRst (t : Fin 8) (s : State) : exec (.ofRst t) s = call (rstTarget t.val) 16 s := by
  revert t; intro ⟨n, h⟩
  match n, h with
  | 0, _ | 1, _ | 2, _ | 3, _ | 4, _ | 5, _ | 6, _ | 7, _ => rfl

/-! ## Every instruction -/

/-- What holds of every shared operation at `s` and at the same CPU on another bus holds of every instruction there. -/
theorem exec_elim₂ {s : State} {m : Memory} {bus : Backend} {P : Result → Result → Prop}
    (hCopy : ∀ dst src, P (copyR8 dst src s) (copyR8 dst src (s.onBus m bus)))
    (hLoadImm : ∀ dst n, P (loadImm dst n s) (loadImm dst n (s.onBus m bus)))
    (hStoreA : ∀ a k, k ∈ [8, 12, 16] → P (storeA a k s) (storeA a k (s.onBus m bus)))
    (hLoadA : ∀ a k, k ∈ [8, 12, 16] → P (loadA a k s) (loadA a k (s.onBus m bus)))
    (hStoreStep : ∀ w, P (storeAStep w s) (storeAStep w (s.onBus m bus)))
    (hLoadStep : ∀ w, P (loadAStep w s) (loadAStep w (s.onBus m bus)))
    (hLoadR16 : ∀ p nn, P (loadR16 p nn s) (loadR16 p nn (s.onBus m bus)))
    (hStoreSP : ∀ nn, P (storeSP nn s) (storeSP nn (s.onBus m bus)))
    (hCopySP : P (copyHLToSP s) (copyHLToSP (s.onBus m bus)))
    (hHLOffset : ∀ n, P (loadHLOffset n s) (loadHLOffset n (s.onBus m bus)))
    (hPush : ∀ q, P (pushR16 q s) (pushR16 q (s.onBus m bus)))
    (hPop : ∀ q, P (popR16 q s) (popR16 q (s.onBus m bus)))
    (hAluR : ∀ k r, P (aluR8 k r s) (aluR8 k r (s.onBus m bus)))
    (hAluN : ∀ k n, P (aluImm k n s) (aluImm k n (s.onBus m bus)))
    (hInc : ∀ r, P (incR8 r s) (incR8 r (s.onBus m bus))) (hDec : ∀ r, P (decR8 r s) (decR8 r (s.onBus m bus)))
    (hInc16 : ∀ p, P (incR16 p s) (incR16 p (s.onBus m bus)))
    (hDec16 : ∀ p, P (decR16 p s) (decR16 p (s.onBus m bus)))
    (hAddHL : ∀ p, P (addToHL p s) (addToHL p (s.onBus m bus)))
    (hAddSP : ∀ n, P (addToSP n s) (addToSP n (s.onBus m bus))) (hDaa : P (adjustA s) (adjustA (s.onBus m bus)))
    (hCpl : P (complementA s) (complementA (s.onBus m bus)))
    (hCarry : ∀ c, P (putCarry c s) (putCarry c (s.onBus m bus)))
    (hRotA : ∀ t, P (rotateA t s) (rotateA t (s.onBus m bus)))
    (hShift : ∀ t r, P (cbShift t r s) (cbShift t r (s.onBus m bus)))
    (hBit : ∀ k r, P (cbBit k r s) (cbBit k r (s.onBus m bus)))
    (hRes : ∀ k r, P (cbRes k r s) (cbRes k r (s.onBus m bus)))
    (hSet : ∀ k r, P (cbSet k r s) (cbSet k r (s.onBus m bus)))
    (hJump : ∀ a k, k ∈ [4, 16] → P (jump a k s) (jump a k (s.onBus m bus)))
    (hJumpIf : ∀ cc nn, P (jumpIf cc nn s) (jumpIf cc nn (s.onBus m bus)))
    (hRel : ∀ n, P (jumpRel n s) (jumpRel n (s.onBus m bus)))
    (hRelIf : ∀ cc n, P (jumpRelIf cc n s) (jumpRelIf cc n (s.onBus m bus)))
    (hCall : ∀ a k, k ∈ [16, 24] → P (call a k s) (call a k (s.onBus m bus)))
    (hCallIf : ∀ cc nn, P (callIf cc nn s) (callIf cc nn (s.onBus m bus)))
    (hRet : P (return_ s) (return_ (s.onBus m bus))) (hReti : P (returnEnable s) (returnEnable (s.onBus m bus)))
    (hRetIf : ∀ cc, P (returnIf cc s) (returnIf cc (s.onBus m bus)))
    (hNone : P (noEffect s) (noEffect (s.onBus m bus))) (hIME : ∀ v, P (writeIME v s) (writeIME v (s.onBus m bus)))
    (hUnknown : ∀ op, P (raiseUnknownOpcode op s) (raiseUnknownOpcode op (s.onBus m bus))) (i : Instr) :
    P (exec i s) (exec i (s.onBus m bus)) :=
  match i with
  | .ld_bc_nn nn => hLoadR16 .bc nn
  | .ld_atBC_a => hStoreA s.bc 8 (by decide)
  | .ld_b_n n => hLoadImm .b n
  | .ld_atNn_sp nn => hStoreSP nn
  | .ld_a_atBC => hLoadA s.bc 8 (by decide)
  | .ld_c_n n => hLoadImm .c n
  | .ld_de_nn nn => hLoadR16 .de nn
  | .ld_atDE_a => hStoreA s.de 8 (by decide)
  | .ld_d_n n => hLoadImm .d n
  | .ld_a_atDE => hLoadA s.de 8 (by decide)
  | .ld_e_n n => hLoadImm .e n
  | .ld_hl_nn nn => hLoadR16 .hl nn
  | .ldi_atHL_a => hStoreStep 1
  | .ld_h_n n => hLoadImm .h n
  | .ldi_a_atHL => hLoadStep 1
  | .ld_l_n n => hLoadImm .l n
  | .ld_sp_nn nn => hLoadR16 .sp nn
  | .ldd_atHL_a => hStoreStep (-1)
  | .ld_atHL_n n => hLoadImm .atHL n
  | .ldd_a_atHL => hLoadStep (-1)
  | .ld_a_n n => hLoadImm .a n
  | .ld_b_b => hCopy .b .b
  | .ld_b_c => hCopy .b .c
  | .ld_b_d => hCopy .b .d
  | .ld_b_e => hCopy .b .e
  | .ld_b_h => hCopy .b .h
  | .ld_b_l => hCopy .b .l
  | .ld_b_atHL => hCopy .b .atHL
  | .ld_b_a => hCopy .b .a
  | .ld_c_b => hCopy .c .b
  | .ld_c_c => hCopy .c .c
  | .ld_c_d => hCopy .c .d
  | .ld_c_e => hCopy .c .e
  | .ld_c_h => hCopy .c .h
  | .ld_c_l => hCopy .c .l
  | .ld_c_atHL => hCopy .c .atHL
  | .ld_c_a => hCopy .c .a
  | .ld_d_b => hCopy .d .b
  | .ld_d_c => hCopy .d .c
  | .ld_d_d => hCopy .d .d
  | .ld_d_e => hCopy .d .e
  | .ld_d_h => hCopy .d .h
  | .ld_d_l => hCopy .d .l
  | .ld_d_atHL => hCopy .d .atHL
  | .ld_d_a => hCopy .d .a
  | .ld_e_b => hCopy .e .b
  | .ld_e_c => hCopy .e .c
  | .ld_e_d => hCopy .e .d
  | .ld_e_e => hCopy .e .e
  | .ld_e_h => hCopy .e .h
  | .ld_e_l => hCopy .e .l
  | .ld_e_atHL => hCopy .e .atHL
  | .ld_e_a => hCopy .e .a
  | .ld_h_b => hCopy .h .b
  | .ld_h_c => hCopy .h .c
  | .ld_h_d => hCopy .h .d
  | .ld_h_e => hCopy .h .e
  | .ld_h_h => hCopy .h .h
  | .ld_h_l => hCopy .h .l
  | .ld_h_atHL => hCopy .h .atHL
  | .ld_h_a => hCopy .h .a
  | .ld_l_b => hCopy .l .b
  | .ld_l_c => hCopy .l .c
  | .ld_l_d => hCopy .l .d
  | .ld_l_e => hCopy .l .e
  | .ld_l_h => hCopy .l .h
  | .ld_l_l => hCopy .l .l
  | .ld_l_atHL => hCopy .l .atHL
  | .ld_l_a => hCopy .l .a
  | .ld_atHL_b => hCopy .atHL .b
  | .ld_atHL_c => hCopy .atHL .c
  | .ld_atHL_d => hCopy .atHL .d
  | .ld_atHL_e => hCopy .atHL .e
  | .ld_atHL_h => hCopy .atHL .h
  | .ld_atHL_l => hCopy .atHL .l
  | .ld_atHL_a => hCopy .atHL .a
  | .ld_a_b => hCopy .a .b
  | .ld_a_c => hCopy .a .c
  | .ld_a_d => hCopy .a .d
  | .ld_a_e => hCopy .a .e
  | .ld_a_h => hCopy .a .h
  | .ld_a_l => hCopy .a .l
  | .ld_a_atHL => hCopy .a .atHL
  | .ld_a_a => hCopy .a .a
  | .pop_bc => hPop .bc
  | .push_bc => hPush .bc
  | .pop_de => hPop .de
  | .push_de => hPush .de
  | .ldh_atN_a n => hStoreA (highPage n) 12 (by decide)
  | .pop_hl => hPop .hl
  | .ld_atC_a => hStoreA (highPage s.c) 8 (by decide)
  | .push_hl => hPush .hl
  | .ld_atNn_a nn => hStoreA nn 16 (by decide)
  | .ldh_a_atN n => hLoadA (highPage n) 12 (by decide)
  | .pop_af => hPop .af
  | .ld_a_atC => hLoadA (highPage s.c) 8 (by decide)
  | .push_af => hPush .af
  | .ld_hl_sp_n n => hHLOffset n
  | .ld_sp_hl => hCopySP
  | .ld_a_atNn nn => hLoadA nn 16 (by decide)
  | .inc_bc => hInc16 .bc
  | .inc_b => hInc .b
  | .dec_b => hDec .b
  | .add_hl_bc => hAddHL .bc
  | .dec_bc => hDec16 .bc
  | .inc_c => hInc .c
  | .dec_c => hDec .c
  | .inc_de => hInc16 .de
  | .inc_d => hInc .d
  | .dec_d => hDec .d
  | .add_hl_de => hAddHL .de
  | .dec_de => hDec16 .de
  | .inc_e => hInc .e
  | .dec_e => hDec .e
  | .inc_hl => hInc16 .hl
  | .inc_h => hInc .h
  | .dec_h => hDec .h
  | .daa => hDaa
  | .add_hl_hl => hAddHL .hl
  | .dec_hl => hDec16 .hl
  | .inc_l => hInc .l
  | .dec_l => hDec .l
  | .cpl => hCpl
  | .inc_sp => hInc16 .sp
  | .inc_atHL => hInc .atHL
  | .dec_atHL => hDec .atHL
  | .scf => hCarry true
  | .add_hl_sp => hAddHL .sp
  | .dec_sp => hDec16 .sp
  | .inc_a => hInc .a
  | .dec_a => hDec .a
  | .ccf => hCarry (!s.cf)
  | .add_a_b => hAluR .add .b
  | .add_a_c => hAluR .add .c
  | .add_a_d => hAluR .add .d
  | .add_a_e => hAluR .add .e
  | .add_a_h => hAluR .add .h
  | .add_a_l => hAluR .add .l
  | .add_a_atHL => hAluR .add .atHL
  | .add_a_a => hAluR .add .a
  | .adc_a_b => hAluR .adc .b
  | .adc_a_c => hAluR .adc .c
  | .adc_a_d => hAluR .adc .d
  | .adc_a_e => hAluR .adc .e
  | .adc_a_h => hAluR .adc .h
  | .adc_a_l => hAluR .adc .l
  | .adc_a_atHL => hAluR .adc .atHL
  | .adc_a_a => hAluR .adc .a
  | .sub_b => hAluR .sub .b
  | .sub_c => hAluR .sub .c
  | .sub_d => hAluR .sub .d
  | .sub_e => hAluR .sub .e
  | .sub_h => hAluR .sub .h
  | .sub_l => hAluR .sub .l
  | .sub_atHL => hAluR .sub .atHL
  | .sub_a => hAluR .sub .a
  | .sbc_a_b => hAluR .sbc .b
  | .sbc_a_c => hAluR .sbc .c
  | .sbc_a_d => hAluR .sbc .d
  | .sbc_a_e => hAluR .sbc .e
  | .sbc_a_h => hAluR .sbc .h
  | .sbc_a_l => hAluR .sbc .l
  | .sbc_a_atHL => hAluR .sbc .atHL
  | .sbc_a_a => hAluR .sbc .a
  | .and_b => hAluR .and .b
  | .and_c => hAluR .and .c
  | .and_d => hAluR .and .d
  | .and_e => hAluR .and .e
  | .and_h => hAluR .and .h
  | .and_l => hAluR .and .l
  | .and_atHL => hAluR .and .atHL
  | .and_a => hAluR .and .a
  | .xor_b => hAluR .xor .b
  | .xor_c => hAluR .xor .c
  | .xor_d => hAluR .xor .d
  | .xor_e => hAluR .xor .e
  | .xor_h => hAluR .xor .h
  | .xor_l => hAluR .xor .l
  | .xor_atHL => hAluR .xor .atHL
  | .xor_a => hAluR .xor .a
  | .or_b => hAluR .or .b
  | .or_c => hAluR .or .c
  | .or_d => hAluR .or .d
  | .or_e => hAluR .or .e
  | .or_h => hAluR .or .h
  | .or_l => hAluR .or .l
  | .or_atHL => hAluR .or .atHL
  | .or_a => hAluR .or .a
  | .cp_b => hAluR .cp .b
  | .cp_c => hAluR .cp .c
  | .cp_d => hAluR .cp .d
  | .cp_e => hAluR .cp .e
  | .cp_h => hAluR .cp .h
  | .cp_l => hAluR .cp .l
  | .cp_atHL => hAluR .cp .atHL
  | .cp_a => hAluR .cp .a
  | .add_a_n n => hAluN .add n
  | .adc_a_n n => hAluN .adc n
  | .sub_n n => hAluN .sub n
  | .sbc_a_n n => hAluN .sbc n
  | .and_n n => hAluN .and n
  | .add_sp_n n => hAddSP n
  | .xor_n n => hAluN .xor n
  | .or_n n => hAluN .or n
  | .cp_n n => hAluN .cp n
  | .rlca => hRotA .rlc
  | .rrca => hRotA .rrc
  | .rla => hRotA .rl
  | .rra => hRotA .rr
  | .cbPrefix cb => by
    change P (cbDispatch cb s) (cbDispatch cb (s.onBus m bus))
    unfold cbDispatch
    split
    · exact hShift _ _
    · exact hBit _ _
    · exact hRes _ _
    · exact hSet _ _
  | .rlc r => hShift .rlc r
  | .rrc r => hShift .rrc r
  | .rl r => hShift .rl r
  | .rr r => hShift .rr r
  | .sla r => hShift .sla r
  | .sra r => hShift .sra r
  | .swap r => hShift .swap r
  | .srl r => hShift .srl r
  | .bit k r => hBit k r
  | .res k r => hRes k r
  | .set k r => hSet k r
  | .jr_n n => hRel n
  | .jr_nz_n n => hRelIf .nz n
  | .jr_z_n n => hRelIf .z n
  | .jr_nc_n n => hRelIf .nc n
  | .jr_c_n n => hRelIf .c n
  | .ret_nz => hRetIf .nz
  | .jp_nz_nn nn => hJumpIf .nz nn
  | .jp_nn nn => hJump nn 16 (by decide)
  | .call_nz_nn nn => hCallIf .nz nn
  | .rst_00 => hCall (rstTarget 0) 16 (by decide)
  | .ret_z => hRetIf .z
  | .ret => hRet
  | .jp_z_nn nn => hJumpIf .z nn
  | .call_z_nn nn => hCallIf .z nn
  | .call_nn nn => hCall nn 24 (by decide)
  | .rst_08 => hCall (rstTarget 1) 16 (by decide)
  | .ret_nc => hRetIf .nc
  | .jp_nc_nn nn => hJumpIf .nc nn
  | .unknown op => hUnknown op
  | .call_nc_nn nn => hCallIf .nc nn
  | .rst_10 => hCall (rstTarget 2) 16 (by decide)
  | .ret_c => hRetIf .c
  | .reti => hReti
  | .jp_c_nn nn => hJumpIf .c nn
  | .call_c_nn nn => hCallIf .c nn
  | .rst_18 => hCall (rstTarget 3) 16 (by decide)
  | .rst_20 => hCall (rstTarget 4) 16 (by decide)
  | .jp_hl => hJump s.hl 4 (by decide)
  | .rst_28 => hCall (rstTarget 5) 16 (by decide)
  | .rst_30 => hCall (rstTarget 6) 16 (by decide)
  | .rst_38 => hCall (rstTarget 7) 16 (by decide)
  | .nop => hNone
  | .stop _ => hNone
  | .halt => hNone
  | .di => hIME false
  | .ei => hIME true

/-- What holds of every shared operation at `s` holds of every instruction at `s`. -/
theorem exec_elim {s : State} {P : Result → Prop}
    (hCopy : ∀ dst src, P (copyR8 dst src s)) (hLoadImm : ∀ dst n, P (loadImm dst n s))
    (hStoreA : ∀ a k, k ∈ [8, 12, 16] → P (storeA a k s)) (hLoadA : ∀ a k, k ∈ [8, 12, 16] → P (loadA a k s))
    (hStoreStep : ∀ w, P (storeAStep w s)) (hLoadStep : ∀ w, P (loadAStep w s))
    (hLoadR16 : ∀ p nn, P (loadR16 p nn s)) (hStoreSP : ∀ nn, P (storeSP nn s)) (hCopySP : P (copyHLToSP s))
    (hHLOffset : ∀ n, P (loadHLOffset n s)) (hPush : ∀ q, P (pushR16 q s)) (hPop : ∀ q, P (popR16 q s))
    (hAluR : ∀ k r, P (aluR8 k r s)) (hAluN : ∀ k n, P (aluImm k n s)) (hInc : ∀ r, P (incR8 r s))
    (hDec : ∀ r, P (decR8 r s)) (hInc16 : ∀ p, P (incR16 p s)) (hDec16 : ∀ p, P (decR16 p s))
    (hAddHL : ∀ p, P (addToHL p s)) (hAddSP : ∀ n, P (addToSP n s)) (hDaa : P (adjustA s))
    (hCpl : P (complementA s)) (hCarry : ∀ c, P (putCarry c s)) (hRotA : ∀ t, P (rotateA t s))
    (hShift : ∀ t r, P (cbShift t r s)) (hBit : ∀ k r, P (cbBit k r s)) (hRes : ∀ k r, P (cbRes k r s))
    (hSet : ∀ k r, P (cbSet k r s)) (hJump : ∀ a k, k ∈ [4, 16] → P (jump a k s))
    (hJumpIf : ∀ cc nn, P (jumpIf cc nn s)) (hRel : ∀ n, P (jumpRel n s)) (hRelIf : ∀ cc n, P (jumpRelIf cc n s))
    (hCall : ∀ a k, k ∈ [16, 24] → P (call a k s)) (hCallIf : ∀ cc nn, P (callIf cc nn s)) (hRet : P (return_ s))
    (hReti : P (returnEnable s)) (hRetIf : ∀ cc, P (returnIf cc s)) (hNone : P (noEffect s))
    (hIME : ∀ v, P (writeIME v s)) (hUnknown : ∀ op, P (raiseUnknownOpcode op s)) (i : Instr) : P (exec i s) :=
  exec_elim₂ (s := s) (m := s.mem) (bus := s.backend) (P := fun r _ => P r) hCopy hLoadImm hStoreA hLoadA hStoreStep
  hLoadStep hLoadR16 hStoreSP hCopySP hHLOffset hPush hPop hAluR hAluN hInc hDec hInc16 hDec16 hAddHL hAddSP hDaa
  hCpl hCarry hRotA hShift hBit hRes hSet hJump hJumpIf hRel hRelIf hCall hCallIf hRet hReti hRetIf hNone hIME
  hUnknown i

/-- The prefix runs the entry that the CB table gives its byte (40_dispatch.md R103). -/
theorem cbDispatch_eq (cb : Byte) (s : State) : cbDispatch cb s = exec (decodeCb cb) s := by
  unfold cbDispatch decodeCb
  generalize field cb 6 2 = x
  match x with
  | 0 => exact (exec_ofShift _ _ s).symm
  | 1 | 2 | _ + 3 => rfl

end Sys2Proof.Machine
end

