-- ==== Sys2Proof/Laws/Frames.lean ====
section
/-! SUPPORT. The frame of each named operation, and how frames compose. -/

namespace Sys2Proof.Machine

/-! ## Composition -/

theorem Frame.refl (s : State) : Frame s s [] [] := ⟨fun _ _ => rfl, fun _ _ => rfl⟩

theorem Frame.trans {s t u : State} {r1 r2 : List Reg} {a1 a2 : List Word} (h1 : Frame s t r1 a1)
    (h2 : Frame t u r2 a2) : Frame s u (r1 ++ r2) (a1 ++ a2) :=
  ⟨fun r h => by
    rw [List.mem_append, not_or] at h
    exact (h2.1 r h.2).trans (h1.1 r h.1),
   fun x h => by
    rw [List.mem_append, not_or] at h
    exact (h2.2 x h.2).trans (h1.2 x h.1)⟩

/-- A longer list of registers or addresses is a weaker frame. -/
theorem Frame.mono {s t : State} {r1 r2 : List Reg} {a1 a2 : List Word} (h : Frame s t r1 a1) (hr : r1 ⊆ r2)
    (ha : a1 ⊆ a2) : Frame s t r2 a2 :=
  ⟨fun r hn => h.1 r (fun hm => hn (hr hm)), fun x hn => h.2 x (fun hm => hn (ha hm))⟩

/-! ## The named operations -/

theorem State.noteAccess_frame (s : State) (x : BusAccess) : Frame s (s.noteAccess x) [] [] := Frame.refl s

theorem State.retire_frame (s : State) (k : Nat) : Frame s (s.retire k) [] [] := Frame.refl s

theorem State.addExtra_frame (s : State) (k : Nat) : Frame s (s.addExtra k) [] [] := Frame.refl s

theorem State.beginStep_frame (s : State) : Frame s s.beginStep [] [] := Frame.refl s

theorem State.memRead_frame (s : State) (a : Word) : Frame s (s.memRead a).2 [] [] := Frame.refl s

theorem State.readR8_frame (s : State) (r : R8) : Frame s (s.readR8 r).2 [] [] := by cases r <;> exact Frame.refl s

theorem State.memWrite_frame (s : State) (a : Word) (v : Byte) : Frame s (s.memWrite a v) [] [a] :=
  ⟨fun r _ => by cases r <;> rfl, fun x h => s.memWrite_peek_of_ne a v x (by simpa using h)⟩

theorem Frame.retire {s t : State} {regs : List Reg} {addrs : List Word} (h : Frame s t regs addrs) (k : Nat) :
    Frame s (t.retire k) regs addrs :=
  ⟨fun r hr => (show (t.retire k).reg r = t.reg r by cases r <;> rfl).trans (h.1 r hr), h.2⟩

theorem Frame.addExtra {s t : State} {regs : List Reg} {addrs : List Word} (h : Frame s t regs addrs) (k : Nat) :
    Frame s (t.addExtra k) regs addrs :=
  ⟨fun r hr => (show (t.addExtra k).reg r = t.reg r by cases r <;> rfl).trans (h.1 r hr), h.2⟩

/-- A register update changes no byte, and only registers for which the two states differ. -/
theorem Frame.of_regs {s t : State} {regs : List Reg} (hm : t.mem = s.mem)
    (h : ∀ r, r ∉ regs → t.reg r = s.reg r) : Frame s t regs [] :=
  ⟨h, fun x _ => by simp only [State.peek, hm]⟩

theorem State.setPC_frame (s : State) (v : Word) : Frame s (s.setPC v) [.pc] [] :=
  Frame.of_regs rfl (fun r h => by cases r <;> first | exact absurd (by decide) h | rfl)

theorem State.setSP_frame (s : State) (v : Word) : Frame s (s.setSP v) [.sp] [] :=
  Frame.of_regs rfl (fun r h => by cases r <;> first | exact absurd (by decide) h | rfl)

theorem State.setIME_frame (s : State) (v : Bool) : Frame s (s.setIME v) [.ime] [] :=
  Frame.of_regs rfl (fun r h => by cases r <;> first | exact absurd (by decide) h | rfl)

theorem State.setA_frame (s : State) (v : Byte) : Frame s (s.setA v) [.a] [] :=
  Frame.of_regs rfl (fun r h => by cases r <;> first | exact absurd (by decide) h | rfl)

theorem State.setHL_frame (s : State) (v : Word) : Frame s (s.setHL v) [.h, .l] [] :=
  Frame.of_regs rfl (fun r h => by cases r <;> first | exact absurd (by decide) h | rfl)

theorem State.setFlags_frame (s : State) (z n h c : Bool) : Frame s (s.setFlags z n h c) [.f] [] :=
  Frame.of_regs rfl (fun r h => by cases r <;> first | exact absurd (by decide) h | rfl)

theorem State.applyAlu_frame (s : State) (k : AluOp) (b : Byte) : Frame s (s.applyAlu k b) [.a, .f] [] :=
  Frame.of_regs rfl (fun r h => by cases r <;> first | exact absurd (by decide) h | rfl)

/-- CP writes no A. -/
theorem State.applyAlu_cp_frame (s : State) (b : Byte) : Frame s (s.applyAlu .cp b) [.f] [] :=
  Frame.of_regs rfl (fun r h => by cases r <;> first | exact absurd (by decide) h | rfl)

theorem State.push16_frame (s : State) (v : Word) : Frame s (s.push16 v) [.sp] [s.sp - 1, s.sp - 2] := by
  refine ⟨fun r h => by cases r <;> first | exact absurd (by decide) h | rfl, fun x h => ?_⟩
  simp only [List.mem_cons, List.not_mem_nil, or_false, not_or] at h
  rw [s.push16_peek, if_neg (fun c => h.2 c.2.1), if_neg (fun c => h.1 c.2.1)]

theorem State.pop16_frame (s : State) : Frame s s.pop16.2 [.sp] [] :=
  Frame.of_regs rfl (fun r h => by cases r <;> first | exact absurd (by decide) h | rfl)

theorem State.popPC_frame (s : State) : Frame s s.popPC [.pc, .sp] [] :=
  (s.pop16_frame.trans (s.pop16.2.setPC_frame s.pop16.1)).mono (by decide) (by simp)

theorem State.callTo_frame (s : State) (v : Word) : Frame s (s.callTo v) [.pc, .sp] [s.sp - 1, s.sp - 2] :=
  ((s.push16_frame s.pc).trans ((s.push16 s.pc).setPC_frame v)).mono (by decide) (by simp)

/-! ## Destinations -/

/-- `Written` looks at HL, the bus and memory of the first state, and at registers and memory of the second. -/
theorem Written.congr {s u t w : State} {r : R8} {v : Byte} (h : Written s t r v) (hh : u.hl = s.hl)
    (hb : u.backend = .mmu ↔ s.backend = .mmu) (hm : u.mem = s.mem) (hw : w.r8 r = t.r8 r) (hwm : w.mem = t.mem) :
    Written u w r v := by
  unfold Written State.afterWrite State.peek at *
  simp only [hb]
  rwa [hh, hm, hw, hwm]

/-- A read-modify-write of an r8 operand: what is written, and the frame. -/
theorem State.readWriteR8 (s : State) (src dst : R8) (v : Byte) :
    Written s ((s.readR8 src).2.writeR8 dst v) dst v ∧
    Frame s ((s.readR8 src).2.writeR8 dst v) dst.regs (s.addrs dst) := by
  refine ⟨((s.readR8 src).2.writeR8_written dst v).congr (by simp) (by simp) (by simp) rfl rfl, ?_⟩
  simpa using (s.readR8_frame src).trans ((s.readR8 src).2.writeR8_frame dst v)

/-! ## The stack -/

/-- What the two stack bytes read as after `Push16`. -/
theorem State.push16_bytes (s : State) (v : Word) :
    (s.push16 v).peek (s.sp - 1) = s.afterWrite (s.sp - 1) (hi8 v) ∧
    (s.push16 v).peek (s.sp - 2) = s.afterWrite (s.sp - 2) (lo8 v) := by
  have h : s.sp - 1 ≠ s.sp - 2 := by bv_omega
  constructor
  · rw [s.push16_peek, if_neg (fun c => h c.2.1)]; simp [State.afterWrite]
  · rw [s.push16_peek]; simp only [State.afterWrite, true_and]
    split
    · rfl
    · rw [if_neg (fun c => h c.2.1.symm)]

end Sys2Proof.Machine
end

