-- ==== Sys2Proof/Laws/PerInstr.lean ====
section
/-! SUPPORT. One lemma for each constructor: the bytes of a well-formed instruction have the length its first byte asks
for, and stand for it. -/

namespace Sys2Proof.Laws.RoundTrip

open Sys2Proof.Machine

/-- The encoder's bytes of `i`, padded to three, are an instruction of their own length, and it is `i`. -/
def Statement (i : Instr) : Prop :=
  i.WellFormed = true →
    (encode i).length = instrLength ((encode i).getD 0 0) ∧
    decode3 ((encode i).getD 0 0) ((encode i).getD 1 0) ((encode i).getD 2 0) = i

/-- An instruction of two bytes. -/
theorem of2 {i : Instr} (op : Byte) {b1 : Byte} (he : encode i = [op, b1]) (hl : instrLength op = 2)
    (hd : decode3 op b1 0 = i) : Statement i := fun _ => by rw [he]; exact ⟨hl.symm, hd⟩

/-- An instruction of three bytes, with the word `nn` in the last two. -/
theorem of3 {i : Instr} (op : Byte) (nn : Word) (mk : Word → Instr) (he : encode i = [op, lo8 nn, hi8 nn])
    (hl : instrLength op = 3) (hd : ∀ lo hi, decode3 op lo hi = mk (join hi lo)) (hi : mk nn = i) : Statement i :=
  fun _ => by rw [he]; exact ⟨hl.symm, (hd _ _).trans ((congrArg mk (join_hi8_lo8 nn)).trans hi)⟩

theorem ld_bc_nn (nn : Word) : Statement (.ld_bc_nn nn) :=
  of3 0x01 nn Instr.ld_bc_nn rfl rfl (fun _ _ => rfl) rfl

theorem ld_b_n (n : Byte) : Statement (.ld_b_n n) := of2 0x06 rfl rfl rfl

theorem ld_atNn_sp (nn : Word) : Statement (.ld_atNn_sp nn) :=
  of3 0x08 nn Instr.ld_atNn_sp rfl rfl (fun _ _ => rfl) rfl

theorem ld_c_n (n : Byte) : Statement (.ld_c_n n) := of2 0x0E rfl rfl rfl

theorem stop (x : Byte) : Statement (.stop x) := of2 0x10 rfl rfl rfl

theorem ld_de_nn (nn : Word) : Statement (.ld_de_nn nn) :=
  of3 0x11 nn Instr.ld_de_nn rfl rfl (fun _ _ => rfl) rfl

theorem ld_d_n (n : Byte) : Statement (.ld_d_n n) := of2 0x16 rfl rfl rfl

theorem jr_n (n : Byte) : Statement (.jr_n n) := of2 0x18 rfl rfl rfl

theorem ld_e_n (n : Byte) : Statement (.ld_e_n n) := of2 0x1E rfl rfl rfl

theorem jr_nz_n (n : Byte) : Statement (.jr_nz_n n) := of2 0x20 rfl rfl rfl

theorem ld_hl_nn (nn : Word) : Statement (.ld_hl_nn nn) :=
  of3 0x21 nn Instr.ld_hl_nn rfl rfl (fun _ _ => rfl) rfl

theorem ld_h_n (n : Byte) : Statement (.ld_h_n n) := of2 0x26 rfl rfl rfl

theorem jr_z_n (n : Byte) : Statement (.jr_z_n n) := of2 0x28 rfl rfl rfl

theorem ld_l_n (n : Byte) : Statement (.ld_l_n n) := of2 0x2E rfl rfl rfl

theorem jr_nc_n (n : Byte) : Statement (.jr_nc_n n) := of2 0x30 rfl rfl rfl

theorem ld_sp_nn (nn : Word) : Statement (.ld_sp_nn nn) :=
  of3 0x31 nn Instr.ld_sp_nn rfl rfl (fun _ _ => rfl) rfl

theorem ld_atHL_n (n : Byte) : Statement (.ld_atHL_n n) := of2 0x36 rfl rfl rfl

theorem jr_c_n (n : Byte) : Statement (.jr_c_n n) := of2 0x38 rfl rfl rfl

theorem ld_a_n (n : Byte) : Statement (.ld_a_n n) := of2 0x3E rfl rfl rfl

theorem jp_nz_nn (nn : Word) : Statement (.jp_nz_nn nn) :=
  of3 0xC2 nn Instr.jp_nz_nn rfl rfl (fun _ _ => rfl) rfl

theorem jp_nn (nn : Word) : Statement (.jp_nn nn) :=
  of3 0xC3 nn Instr.jp_nn rfl rfl (fun _ _ => rfl) rfl

theorem call_nz_nn (nn : Word) : Statement (.call_nz_nn nn) :=
  of3 0xC4 nn Instr.call_nz_nn rfl rfl (fun _ _ => rfl) rfl

theorem add_a_n (n : Byte) : Statement (.add_a_n n) := of2 0xC6 rfl rfl rfl

theorem jp_z_nn (nn : Word) : Statement (.jp_z_nn nn) :=
  of3 0xCA nn Instr.jp_z_nn rfl rfl (fun _ _ => rfl) rfl

theorem cbPrefix (cb : Byte) : Statement (.cbPrefix cb) := fun h => absurd h (by simp [Instr.WellFormed])

theorem call_z_nn (nn : Word) : Statement (.call_z_nn nn) :=
  of3 0xCC nn Instr.call_z_nn rfl rfl (fun _ _ => rfl) rfl

theorem call_nn (nn : Word) : Statement (.call_nn nn) :=
  of3 0xCD nn Instr.call_nn rfl rfl (fun _ _ => rfl) rfl

theorem adc_a_n (n : Byte) : Statement (.adc_a_n n) := of2 0xCE rfl rfl rfl

theorem jp_nc_nn (nn : Word) : Statement (.jp_nc_nn nn) :=
  of3 0xD2 nn Instr.jp_nc_nn rfl rfl (fun _ _ => rfl) rfl

theorem unknown (op : Byte) : Statement (.unknown op) := by
  intro h
  have h : op ∈ unknownOpcodes := by simpa [Instr.WellFormed] using h
  simp only [unknownOpcodes, List.mem_cons, List.not_mem_nil, or_false] at h
  rcases h with h | h | h | h | h | h | h | h | h | h | h <;> subst h <;> exact ⟨rfl, rfl⟩

theorem call_nc_nn (nn : Word) : Statement (.call_nc_nn nn) :=
  of3 0xD4 nn Instr.call_nc_nn rfl rfl (fun _ _ => rfl) rfl

theorem sub_n (n : Byte) : Statement (.sub_n n) := of2 0xD6 rfl rfl rfl

theorem jp_c_nn (nn : Word) : Statement (.jp_c_nn nn) :=
  of3 0xDA nn Instr.jp_c_nn rfl rfl (fun _ _ => rfl) rfl

theorem call_c_nn (nn : Word) : Statement (.call_c_nn nn) :=
  of3 0xDC nn Instr.call_c_nn rfl rfl (fun _ _ => rfl) rfl

theorem sbc_a_n (n : Byte) : Statement (.sbc_a_n n) := of2 0xDE rfl rfl rfl

theorem ldh_atN_a (n : Byte) : Statement (.ldh_atN_a n) := of2 0xE0 rfl rfl rfl

theorem and_n (n : Byte) : Statement (.and_n n) := of2 0xE6 rfl rfl rfl

theorem add_sp_n (n : Byte) : Statement (.add_sp_n n) := of2 0xE8 rfl rfl rfl

theorem ld_atNn_a (nn : Word) : Statement (.ld_atNn_a nn) :=
  of3 0xEA nn Instr.ld_atNn_a rfl rfl (fun _ _ => rfl) rfl

theorem xor_n (n : Byte) : Statement (.xor_n n) := of2 0xEE rfl rfl rfl

theorem ldh_a_atN (n : Byte) : Statement (.ldh_a_atN n) := of2 0xF0 rfl rfl rfl

theorem or_n (n : Byte) : Statement (.or_n n) := of2 0xF6 rfl rfl rfl

theorem ld_hl_sp_n (n : Byte) : Statement (.ld_hl_sp_n n) := of2 0xF8 rfl rfl rfl

theorem ld_a_atNn (nn : Word) : Statement (.ld_a_atNn nn) :=
  of3 0xFA nn Instr.ld_a_atNn rfl rfl (fun _ _ => rfl) rfl

theorem cp_n (n : Byte) : Statement (.cp_n n) := of2 0xFE rfl rfl rfl

theorem rlc (r : R8) : Statement (.rlc r) := fun _ => by
  cases r <;> exact ⟨rfl, rfl⟩

theorem rrc (r : R8) : Statement (.rrc r) := fun _ => by
  cases r <;> exact ⟨rfl, rfl⟩

theorem rl (r : R8) : Statement (.rl r) := fun _ => by
  cases r <;> exact ⟨rfl, rfl⟩

theorem rr (r : R8) : Statement (.rr r) := fun _ => by
  cases r <;> exact ⟨rfl, rfl⟩

theorem sla (r : R8) : Statement (.sla r) := fun _ => by
  cases r <;> exact ⟨rfl, rfl⟩

theorem sra (r : R8) : Statement (.sra r) := fun _ => by
  cases r <;> exact ⟨rfl, rfl⟩

theorem swap (r : R8) : Statement (.swap r) := fun _ => by
  cases r <;> exact ⟨rfl, rfl⟩

theorem srl (r : R8) : Statement (.srl r) := fun _ => by
  cases r <;> exact ⟨rfl, rfl⟩

theorem bit (k : Fin 8) (r : R8) : Statement (.bit k r) := fun _ => by
  cases r <;> revert k <;> decide

theorem res (k : Fin 8) (r : R8) : Statement (.res k r) := fun _ => by
  cases r <;> revert k <;> decide

theorem set (k : Fin 8) (r : R8) : Statement (.set k r) := fun _ => by
  cases r <;> revert k <;> decide

theorem nop : Statement .nop := fun _ => ⟨rfl, rfl⟩

theorem ld_atBC_a : Statement .ld_atBC_a := fun _ => ⟨rfl, rfl⟩

theorem inc_bc : Statement .inc_bc := fun _ => ⟨rfl, rfl⟩

theorem inc_b : Statement .inc_b := fun _ => ⟨rfl, rfl⟩

theorem dec_b : Statement .dec_b := fun _ => ⟨rfl, rfl⟩

theorem rlca : Statement .rlca := fun _ => ⟨rfl, rfl⟩

theorem add_hl_bc : Statement .add_hl_bc := fun _ => ⟨rfl, rfl⟩

theorem ld_a_atBC : Statement .ld_a_atBC := fun _ => ⟨rfl, rfl⟩

theorem dec_bc : Statement .dec_bc := fun _ => ⟨rfl, rfl⟩

theorem inc_c : Statement .inc_c := fun _ => ⟨rfl, rfl⟩

theorem dec_c : Statement .dec_c := fun _ => ⟨rfl, rfl⟩

theorem rrca : Statement .rrca := fun _ => ⟨rfl, rfl⟩

theorem ld_atDE_a : Statement .ld_atDE_a := fun _ => ⟨rfl, rfl⟩

theorem inc_de : Statement .inc_de := fun _ => ⟨rfl, rfl⟩

theorem inc_d : Statement .inc_d := fun _ => ⟨rfl, rfl⟩

theorem dec_d : Statement .dec_d := fun _ => ⟨rfl, rfl⟩

theorem rla : Statement .rla := fun _ => ⟨rfl, rfl⟩

theorem add_hl_de : Statement .add_hl_de := fun _ => ⟨rfl, rfl⟩

theorem ld_a_atDE : Statement .ld_a_atDE := fun _ => ⟨rfl, rfl⟩

theorem dec_de : Statement .dec_de := fun _ => ⟨rfl, rfl⟩

theorem inc_e : Statement .inc_e := fun _ => ⟨rfl, rfl⟩

theorem dec_e : Statement .dec_e := fun _ => ⟨rfl, rfl⟩

theorem rra : Statement .rra := fun _ => ⟨rfl, rfl⟩

theorem ldi_atHL_a : Statement .ldi_atHL_a := fun _ => ⟨rfl, rfl⟩

theorem inc_hl : Statement .inc_hl := fun _ => ⟨rfl, rfl⟩

theorem inc_h : Statement .inc_h := fun _ => ⟨rfl, rfl⟩

theorem dec_h : Statement .dec_h := fun _ => ⟨rfl, rfl⟩

theorem daa : Statement .daa := fun _ => ⟨rfl, rfl⟩

theorem add_hl_hl : Statement .add_hl_hl := fun _ => ⟨rfl, rfl⟩

theorem ldi_a_atHL : Statement .ldi_a_atHL := fun _ => ⟨rfl, rfl⟩

theorem dec_hl : Statement .dec_hl := fun _ => ⟨rfl, rfl⟩

theorem inc_l : Statement .inc_l := fun _ => ⟨rfl, rfl⟩

theorem dec_l : Statement .dec_l := fun _ => ⟨rfl, rfl⟩

theorem cpl : Statement .cpl := fun _ => ⟨rfl, rfl⟩

theorem ldd_atHL_a : Statement .ldd_atHL_a := fun _ => ⟨rfl, rfl⟩

theorem inc_sp : Statement .inc_sp := fun _ => ⟨rfl, rfl⟩

theorem inc_atHL : Statement .inc_atHL := fun _ => ⟨rfl, rfl⟩

theorem dec_atHL : Statement .dec_atHL := fun _ => ⟨rfl, rfl⟩

theorem scf : Statement .scf := fun _ => ⟨rfl, rfl⟩

theorem add_hl_sp : Statement .add_hl_sp := fun _ => ⟨rfl, rfl⟩

theorem ldd_a_atHL : Statement .ldd_a_atHL := fun _ => ⟨rfl, rfl⟩

theorem dec_sp : Statement .dec_sp := fun _ => ⟨rfl, rfl⟩

theorem inc_a : Statement .inc_a := fun _ => ⟨rfl, rfl⟩

theorem dec_a : Statement .dec_a := fun _ => ⟨rfl, rfl⟩

theorem ccf : Statement .ccf := fun _ => ⟨rfl, rfl⟩

theorem ld_b_b : Statement .ld_b_b := fun _ => ⟨rfl, rfl⟩

theorem ld_b_c : Statement .ld_b_c := fun _ => ⟨rfl, rfl⟩

theorem ld_b_d : Statement .ld_b_d := fun _ => ⟨rfl, rfl⟩

theorem ld_b_e : Statement .ld_b_e := fun _ => ⟨rfl, rfl⟩

theorem ld_b_h : Statement .ld_b_h := fun _ => ⟨rfl, rfl⟩

theorem ld_b_l : Statement .ld_b_l := fun _ => ⟨rfl, rfl⟩

theorem ld_b_atHL : Statement .ld_b_atHL := fun _ => ⟨rfl, rfl⟩

theorem ld_b_a : Statement .ld_b_a := fun _ => ⟨rfl, rfl⟩

theorem ld_c_b : Statement .ld_c_b := fun _ => ⟨rfl, rfl⟩

theorem ld_c_c : Statement .ld_c_c := fun _ => ⟨rfl, rfl⟩

theorem ld_c_d : Statement .ld_c_d := fun _ => ⟨rfl, rfl⟩

theorem ld_c_e : Statement .ld_c_e := fun _ => ⟨rfl, rfl⟩

theorem ld_c_h : Statement .ld_c_h := fun _ => ⟨rfl, rfl⟩

theorem ld_c_l : Statement .ld_c_l := fun _ => ⟨rfl, rfl⟩

theorem ld_c_atHL : Statement .ld_c_atHL := fun _ => ⟨rfl, rfl⟩

theorem ld_c_a : Statement .ld_c_a := fun _ => ⟨rfl, rfl⟩

theorem ld_d_b : Statement .ld_d_b := fun _ => ⟨rfl, rfl⟩

theorem ld_d_c : Statement .ld_d_c := fun _ => ⟨rfl, rfl⟩

theorem ld_d_d : Statement .ld_d_d := fun _ => ⟨rfl, rfl⟩

theorem ld_d_e : Statement .ld_d_e := fun _ => ⟨rfl, rfl⟩

theorem ld_d_h : Statement .ld_d_h := fun _ => ⟨rfl, rfl⟩

theorem ld_d_l : Statement .ld_d_l := fun _ => ⟨rfl, rfl⟩

theorem ld_d_atHL : Statement .ld_d_atHL := fun _ => ⟨rfl, rfl⟩

theorem ld_d_a : Statement .ld_d_a := fun _ => ⟨rfl, rfl⟩

theorem ld_e_b : Statement .ld_e_b := fun _ => ⟨rfl, rfl⟩

theorem ld_e_c : Statement .ld_e_c := fun _ => ⟨rfl, rfl⟩

theorem ld_e_d : Statement .ld_e_d := fun _ => ⟨rfl, rfl⟩

theorem ld_e_e : Statement .ld_e_e := fun _ => ⟨rfl, rfl⟩

theorem ld_e_h : Statement .ld_e_h := fun _ => ⟨rfl, rfl⟩

theorem ld_e_l : Statement .ld_e_l := fun _ => ⟨rfl, rfl⟩

theorem ld_e_atHL : Statement .ld_e_atHL := fun _ => ⟨rfl, rfl⟩

theorem ld_e_a : Statement .ld_e_a := fun _ => ⟨rfl, rfl⟩

theorem ld_h_b : Statement .ld_h_b := fun _ => ⟨rfl, rfl⟩

theorem ld_h_c : Statement .ld_h_c := fun _ => ⟨rfl, rfl⟩

theorem ld_h_d : Statement .ld_h_d := fun _ => ⟨rfl, rfl⟩

theorem ld_h_e : Statement .ld_h_e := fun _ => ⟨rfl, rfl⟩

theorem ld_h_h : Statement .ld_h_h := fun _ => ⟨rfl, rfl⟩

theorem ld_h_l : Statement .ld_h_l := fun _ => ⟨rfl, rfl⟩

theorem ld_h_atHL : Statement .ld_h_atHL := fun _ => ⟨rfl, rfl⟩

theorem ld_h_a : Statement .ld_h_a := fun _ => ⟨rfl, rfl⟩

theorem ld_l_b : Statement .ld_l_b := fun _ => ⟨rfl, rfl⟩

theorem ld_l_c : Statement .ld_l_c := fun _ => ⟨rfl, rfl⟩

theorem ld_l_d : Statement .ld_l_d := fun _ => ⟨rfl, rfl⟩

theorem ld_l_e : Statement .ld_l_e := fun _ => ⟨rfl, rfl⟩

theorem ld_l_h : Statement .ld_l_h := fun _ => ⟨rfl, rfl⟩

theorem ld_l_l : Statement .ld_l_l := fun _ => ⟨rfl, rfl⟩

theorem ld_l_atHL : Statement .ld_l_atHL := fun _ => ⟨rfl, rfl⟩

theorem ld_l_a : Statement .ld_l_a := fun _ => ⟨rfl, rfl⟩

theorem ld_atHL_b : Statement .ld_atHL_b := fun _ => ⟨rfl, rfl⟩

theorem ld_atHL_c : Statement .ld_atHL_c := fun _ => ⟨rfl, rfl⟩

theorem ld_atHL_d : Statement .ld_atHL_d := fun _ => ⟨rfl, rfl⟩

theorem ld_atHL_e : Statement .ld_atHL_e := fun _ => ⟨rfl, rfl⟩

theorem ld_atHL_h : Statement .ld_atHL_h := fun _ => ⟨rfl, rfl⟩

theorem ld_atHL_l : Statement .ld_atHL_l := fun _ => ⟨rfl, rfl⟩

theorem halt : Statement .halt := fun _ => ⟨rfl, rfl⟩

theorem ld_atHL_a : Statement .ld_atHL_a := fun _ => ⟨rfl, rfl⟩

theorem ld_a_b : Statement .ld_a_b := fun _ => ⟨rfl, rfl⟩

theorem ld_a_c : Statement .ld_a_c := fun _ => ⟨rfl, rfl⟩

theorem ld_a_d : Statement .ld_a_d := fun _ => ⟨rfl, rfl⟩

theorem ld_a_e : Statement .ld_a_e := fun _ => ⟨rfl, rfl⟩

theorem ld_a_h : Statement .ld_a_h := fun _ => ⟨rfl, rfl⟩

theorem ld_a_l : Statement .ld_a_l := fun _ => ⟨rfl, rfl⟩

theorem ld_a_atHL : Statement .ld_a_atHL := fun _ => ⟨rfl, rfl⟩

theorem ld_a_a : Statement .ld_a_a := fun _ => ⟨rfl, rfl⟩

theorem add_a_b : Statement .add_a_b := fun _ => ⟨rfl, rfl⟩

theorem add_a_c : Statement .add_a_c := fun _ => ⟨rfl, rfl⟩

theorem add_a_d : Statement .add_a_d := fun _ => ⟨rfl, rfl⟩

theorem add_a_e : Statement .add_a_e := fun _ => ⟨rfl, rfl⟩

theorem add_a_h : Statement .add_a_h := fun _ => ⟨rfl, rfl⟩

theorem add_a_l : Statement .add_a_l := fun _ => ⟨rfl, rfl⟩

theorem add_a_atHL : Statement .add_a_atHL := fun _ => ⟨rfl, rfl⟩

theorem add_a_a : Statement .add_a_a := fun _ => ⟨rfl, rfl⟩

theorem adc_a_b : Statement .adc_a_b := fun _ => ⟨rfl, rfl⟩

theorem adc_a_c : Statement .adc_a_c := fun _ => ⟨rfl, rfl⟩

theorem adc_a_d : Statement .adc_a_d := fun _ => ⟨rfl, rfl⟩

theorem adc_a_e : Statement .adc_a_e := fun _ => ⟨rfl, rfl⟩

theorem adc_a_h : Statement .adc_a_h := fun _ => ⟨rfl, rfl⟩

theorem adc_a_l : Statement .adc_a_l := fun _ => ⟨rfl, rfl⟩

theorem adc_a_atHL : Statement .adc_a_atHL := fun _ => ⟨rfl, rfl⟩

theorem adc_a_a : Statement .adc_a_a := fun _ => ⟨rfl, rfl⟩

theorem sub_b : Statement .sub_b := fun _ => ⟨rfl, rfl⟩

theorem sub_c : Statement .sub_c := fun _ => ⟨rfl, rfl⟩

theorem sub_d : Statement .sub_d := fun _ => ⟨rfl, rfl⟩

theorem sub_e : Statement .sub_e := fun _ => ⟨rfl, rfl⟩

theorem sub_h : Statement .sub_h := fun _ => ⟨rfl, rfl⟩

theorem sub_l : Statement .sub_l := fun _ => ⟨rfl, rfl⟩

theorem sub_atHL : Statement .sub_atHL := fun _ => ⟨rfl, rfl⟩

theorem sub_a : Statement .sub_a := fun _ => ⟨rfl, rfl⟩

theorem sbc_a_b : Statement .sbc_a_b := fun _ => ⟨rfl, rfl⟩

theorem sbc_a_c : Statement .sbc_a_c := fun _ => ⟨rfl, rfl⟩

theorem sbc_a_d : Statement .sbc_a_d := fun _ => ⟨rfl, rfl⟩

theorem sbc_a_e : Statement .sbc_a_e := fun _ => ⟨rfl, rfl⟩

theorem sbc_a_h : Statement .sbc_a_h := fun _ => ⟨rfl, rfl⟩

theorem sbc_a_l : Statement .sbc_a_l := fun _ => ⟨rfl, rfl⟩

theorem sbc_a_atHL : Statement .sbc_a_atHL := fun _ => ⟨rfl, rfl⟩

theorem sbc_a_a : Statement .sbc_a_a := fun _ => ⟨rfl, rfl⟩

theorem and_b : Statement .and_b := fun _ => ⟨rfl, rfl⟩

theorem and_c : Statement .and_c := fun _ => ⟨rfl, rfl⟩

theorem and_d : Statement .and_d := fun _ => ⟨rfl, rfl⟩

theorem and_e : Statement .and_e := fun _ => ⟨rfl, rfl⟩

theorem and_h : Statement .and_h := fun _ => ⟨rfl, rfl⟩

theorem and_l : Statement .and_l := fun _ => ⟨rfl, rfl⟩

theorem and_atHL : Statement .and_atHL := fun _ => ⟨rfl, rfl⟩

theorem and_a : Statement .and_a := fun _ => ⟨rfl, rfl⟩

theorem xor_b : Statement .xor_b := fun _ => ⟨rfl, rfl⟩

theorem xor_c : Statement .xor_c := fun _ => ⟨rfl, rfl⟩

theorem xor_d : Statement .xor_d := fun _ => ⟨rfl, rfl⟩

theorem xor_e : Statement .xor_e := fun _ => ⟨rfl, rfl⟩

theorem xor_h : Statement .xor_h := fun _ => ⟨rfl, rfl⟩

theorem xor_l : Statement .xor_l := fun _ => ⟨rfl, rfl⟩

theorem xor_atHL : Statement .xor_atHL := fun _ => ⟨rfl, rfl⟩

theorem xor_a : Statement .xor_a := fun _ => ⟨rfl, rfl⟩

theorem or_b : Statement .or_b := fun _ => ⟨rfl, rfl⟩

theorem or_c : Statement .or_c := fun _ => ⟨rfl, rfl⟩

theorem or_d : Statement .or_d := fun _ => ⟨rfl, rfl⟩

theorem or_e : Statement .or_e := fun _ => ⟨rfl, rfl⟩

theorem or_h : Statement .or_h := fun _ => ⟨rfl, rfl⟩

theorem or_l : Statement .or_l := fun _ => ⟨rfl, rfl⟩

theorem or_atHL : Statement .or_atHL := fun _ => ⟨rfl, rfl⟩

theorem or_a : Statement .or_a := fun _ => ⟨rfl, rfl⟩

theorem cp_b : Statement .cp_b := fun _ => ⟨rfl, rfl⟩

theorem cp_c : Statement .cp_c := fun _ => ⟨rfl, rfl⟩

theorem cp_d : Statement .cp_d := fun _ => ⟨rfl, rfl⟩

theorem cp_e : Statement .cp_e := fun _ => ⟨rfl, rfl⟩

theorem cp_h : Statement .cp_h := fun _ => ⟨rfl, rfl⟩

theorem cp_l : Statement .cp_l := fun _ => ⟨rfl, rfl⟩

theorem cp_atHL : Statement .cp_atHL := fun _ => ⟨rfl, rfl⟩

theorem cp_a : Statement .cp_a := fun _ => ⟨rfl, rfl⟩

theorem ret_nz : Statement .ret_nz := fun _ => ⟨rfl, rfl⟩

theorem pop_bc : Statement .pop_bc := fun _ => ⟨rfl, rfl⟩

theorem push_bc : Statement .push_bc := fun _ => ⟨rfl, rfl⟩

theorem rst_00 : Statement .rst_00 := fun _ => ⟨rfl, rfl⟩

theorem ret_z : Statement .ret_z := fun _ => ⟨rfl, rfl⟩

theorem ret : Statement .ret := fun _ => ⟨rfl, rfl⟩

theorem rst_08 : Statement .rst_08 := fun _ => ⟨rfl, rfl⟩

theorem ret_nc : Statement .ret_nc := fun _ => ⟨rfl, rfl⟩

theorem pop_de : Statement .pop_de := fun _ => ⟨rfl, rfl⟩

theorem push_de : Statement .push_de := fun _ => ⟨rfl, rfl⟩

theorem rst_10 : Statement .rst_10 := fun _ => ⟨rfl, rfl⟩

theorem ret_c : Statement .ret_c := fun _ => ⟨rfl, rfl⟩

theorem reti : Statement .reti := fun _ => ⟨rfl, rfl⟩

theorem rst_18 : Statement .rst_18 := fun _ => ⟨rfl, rfl⟩

theorem pop_hl : Statement .pop_hl := fun _ => ⟨rfl, rfl⟩

theorem ld_atC_a : Statement .ld_atC_a := fun _ => ⟨rfl, rfl⟩

theorem push_hl : Statement .push_hl := fun _ => ⟨rfl, rfl⟩

theorem rst_20 : Statement .rst_20 := fun _ => ⟨rfl, rfl⟩

theorem jp_hl : Statement .jp_hl := fun _ => ⟨rfl, rfl⟩

theorem rst_28 : Statement .rst_28 := fun _ => ⟨rfl, rfl⟩

theorem pop_af : Statement .pop_af := fun _ => ⟨rfl, rfl⟩

theorem ld_a_atC : Statement .ld_a_atC := fun _ => ⟨rfl, rfl⟩

theorem di : Statement .di := fun _ => ⟨rfl, rfl⟩

theorem push_af : Statement .push_af := fun _ => ⟨rfl, rfl⟩

theorem rst_30 : Statement .rst_30 := fun _ => ⟨rfl, rfl⟩

theorem ld_sp_hl : Statement .ld_sp_hl := fun _ => ⟨rfl, rfl⟩

theorem ei : Statement .ei := fun _ => ⟨rfl, rfl⟩

theorem rst_38 : Statement .rst_38 := fun _ => ⟨rfl, rfl⟩

end Sys2Proof.Laws.RoundTrip
end

