-- ==== Sys2Proof/Tests/Slice0.lean ====
section
/-! SUPPORT. Tests of the model against the spec's tables and worked examples, and a witness for the hypotheses of each
statement. An expected result is the spec's: the map of 30_encoding.md R88, the fields of R84, the rows of
95_test_vectors.md, whose id stands in the test's name, and the access sequences of 20_memory.md R68. -/

namespace Sys2Proof.Tests

open Machine

/-! ## Helpers -/

/-- The launch state of 95_test_vectors.md: PC = 0xC000, the code at PC, and bytes put straight into memory. -/
def launch (code : List Byte) (mem : List (Nat × Byte)) : State :=
  let m := mem.foldl (fun m x => Memory.put m x.1 x.2) []
  { State.reset with
    pc := 0xC000
    mem := (List.range code.length).foldl (fun m k => Memory.put m (0xC000 + k) (code.getD k 0)) m }

/-- The step answers a next state that the check accepts. -/
def runs (s : State) (check : State → Bool) : Bool :=
  match step s with
  | .next t => check t
  | _ => false

/-- The step ends in the fault. -/
def faults (s : State) (f : Fault) : Bool :=
  match step s with
  | .fault g => decide (g = f)
  | _ => false

/-- The bytes are one instruction, `i`, with nothing after it. -/
def readsAs (bytes : List Byte) (i : Instr) : Bool :=
  match decode bytes with
  | .ok (j, []) => decide (j = i)
  | _ => false

/-- The decoder's row of 16 opcodes, with the immediates 0x34 and 0x12 after each. -/
def row (hi : Nat) : List Instr :=
  (List.range 16).map fun lo => decodePrimary (BitVec.ofNat 8 (16 * hi + lo)) 0x34 0x12

/-! ## Well-formedness -/

theorem test_wf_refuses_unknown_of_assigned_byte : (Instr.unknown 0x00).WellFormed = false := by decide

theorem test_wf_accepts_unknown_of_unassigned_byte : (Instr.unknown 0xFD).WellFormed = true := by decide

theorem test_wf_refuses_prefix_without_its_entry : (Instr.cbPrefix 0x37).WellFormed = false := by decide

/-! ## The opcode map (30_encoding.md R88), row by row -/

theorem test_map_row_0 : row 0x0 =
    [.nop, .ld_bc_nn 0x1234, .ld_atBC_a, .inc_bc, .inc_b, .dec_b,
     .ld_b_n 0x34, .rlca, .ld_atNn_sp 0x1234, .add_hl_bc, .ld_a_atBC,
     .dec_bc, .inc_c, .dec_c, .ld_c_n 0x34, .rrca] := by decide

theorem test_map_row_1 : row 0x1 =
    [.stop 0x34, .ld_de_nn 0x1234, .ld_atDE_a, .inc_de, .inc_d, .dec_d,
     .ld_d_n 0x34, .rla, .jr_n 0x34, .add_hl_de, .ld_a_atDE,
     .dec_de, .inc_e, .dec_e, .ld_e_n 0x34, .rra] := by decide

theorem test_map_row_2 : row 0x2 =
    [.jr_nz_n 0x34, .ld_hl_nn 0x1234, .ldi_atHL_a, .inc_hl, .inc_h, .dec_h,
     .ld_h_n 0x34, .daa, .jr_z_n 0x34, .add_hl_hl, .ldi_a_atHL,
     .dec_hl, .inc_l, .dec_l, .ld_l_n 0x34, .cpl] := by decide

theorem test_map_row_3 : row 0x3 =
    [.jr_nc_n 0x34, .ld_sp_nn 0x1234, .ldd_atHL_a, .inc_sp, .inc_atHL, .dec_atHL,
     .ld_atHL_n 0x34, .scf, .jr_c_n 0x34, .add_hl_sp, .ldd_a_atHL,
     .dec_sp, .inc_a, .dec_a, .ld_a_n 0x34, .ccf] := by decide

theorem test_map_row_4 : row 0x4 =
    [.ld_b_b, .ld_b_c, .ld_b_d, .ld_b_e, .ld_b_h, .ld_b_l,
     .ld_b_atHL, .ld_b_a, .ld_c_b, .ld_c_c, .ld_c_d,
     .ld_c_e, .ld_c_h, .ld_c_l, .ld_c_atHL, .ld_c_a] := by decide

theorem test_map_row_5 : row 0x5 =
    [.ld_d_b, .ld_d_c, .ld_d_d, .ld_d_e, .ld_d_h, .ld_d_l,
     .ld_d_atHL, .ld_d_a, .ld_e_b, .ld_e_c, .ld_e_d,
     .ld_e_e, .ld_e_h, .ld_e_l, .ld_e_atHL, .ld_e_a] := by decide

theorem test_map_row_6 : row 0x6 =
    [.ld_h_b, .ld_h_c, .ld_h_d, .ld_h_e, .ld_h_h, .ld_h_l,
     .ld_h_atHL, .ld_h_a, .ld_l_b, .ld_l_c, .ld_l_d,
     .ld_l_e, .ld_l_h, .ld_l_l, .ld_l_atHL, .ld_l_a] := by decide

theorem test_map_row_7 : row 0x7 =
    [.ld_atHL_b, .ld_atHL_c, .ld_atHL_d, .ld_atHL_e, .ld_atHL_h, .ld_atHL_l,
     .halt, .ld_atHL_a, .ld_a_b, .ld_a_c, .ld_a_d,
     .ld_a_e, .ld_a_h, .ld_a_l, .ld_a_atHL, .ld_a_a] := by decide

theorem test_map_row_8 : row 0x8 =
    [.add_a_b, .add_a_c, .add_a_d, .add_a_e, .add_a_h, .add_a_l,
     .add_a_atHL, .add_a_a, .adc_a_b, .adc_a_c, .adc_a_d,
     .adc_a_e, .adc_a_h, .adc_a_l, .adc_a_atHL, .adc_a_a] := by decide

theorem test_map_row_9 : row 0x9 =
    [.sub_b, .sub_c, .sub_d, .sub_e, .sub_h, .sub_l,
     .sub_atHL, .sub_a, .sbc_a_b, .sbc_a_c, .sbc_a_d,
     .sbc_a_e, .sbc_a_h, .sbc_a_l, .sbc_a_atHL, .sbc_a_a] := by decide

theorem test_map_row_A : row 0xA =
    [.and_b, .and_c, .and_d, .and_e, .and_h, .and_l,
     .and_atHL, .and_a, .xor_b, .xor_c, .xor_d,
     .xor_e, .xor_h, .xor_l, .xor_atHL, .xor_a] := by decide

theorem test_map_row_B : row 0xB =
    [.or_b, .or_c, .or_d, .or_e, .or_h, .or_l,
     .or_atHL, .or_a, .cp_b, .cp_c, .cp_d,
     .cp_e, .cp_h, .cp_l, .cp_atHL, .cp_a] := by decide

theorem test_map_row_C : row 0xC =
    [.ret_nz, .pop_bc, .jp_nz_nn 0x1234, .jp_nn 0x1234, .call_nz_nn 0x1234, .push_bc,
     .add_a_n 0x34, .rst_00, .ret_z, .ret, .jp_z_nn 0x1234,
     .cbPrefix 0x34, .call_z_nn 0x1234, .call_nn 0x1234, .adc_a_n 0x34, .rst_08] := by decide

theorem test_map_row_D : row 0xD =
    [.ret_nc, .pop_de, .jp_nc_nn 0x1234, .unknown 0xD3, .call_nc_nn 0x1234, .push_de,
     .sub_n 0x34, .rst_10, .ret_c, .reti, .jp_c_nn 0x1234,
     .unknown 0xDB, .call_c_nn 0x1234, .unknown 0xDD, .sbc_a_n 0x34, .rst_18] := by decide

theorem test_map_row_E : row 0xE =
    [.ldh_atN_a 0x34, .pop_hl, .ld_atC_a, .unknown 0xE3, .unknown 0xE4, .push_hl,
     .and_n 0x34, .rst_20, .add_sp_n 0x34, .jp_hl, .ld_atNn_a 0x1234,
     .unknown 0xEB, .unknown 0xEC, .unknown 0xED, .xor_n 0x34, .rst_28] := by decide

theorem test_map_row_F : row 0xF =
    [.ldh_a_atN 0x34, .pop_af, .ld_a_atC, .di, .unknown 0xF4, .push_af,
     .or_n 0x34, .rst_30, .ld_hl_sp_n 0x34, .ld_sp_hl, .ld_a_atNn 0x1234,
     .ei, .unknown 0xFC, .unknown 0xFD, .cp_n 0x34, .rst_38] := by decide

/-! ## Words written out from the fields of R76 to R86 -/

theorem test_word_ld_r_r : readsAs [0b01_000_001] (.ofLdRR .b .c) = true := by decide
theorem test_word_ld_r_n : readsAs [0b00_110_110, 0x99] (.ofLdRN .atHL 0x99) = true := by decide
theorem test_word_ld_r16_nn : readsAs [0b00_11_0001, 0x00, 0xE0] (.ofLdR16 .sp 0xE000) = true := by decide
theorem test_word_push : readsAs [0b11_11_0101] (.ofPush .af) = true := by decide
theorem test_word_pop : readsAs [0b11_10_0001] (.ofPop .hl) = true := by decide
theorem test_word_alu_r : readsAs [0b10_011_010] (.ofAluR .sbc .d) = true := by decide
theorem test_word_alu_n : readsAs [0b11_111_110, 0x2F] (.ofAluN .cp 0x2F) = true := by decide
theorem test_word_inc_r : readsAs [0b00_110_100] (.ofIncR .atHL) = true := by decide
theorem test_word_dec_rr : readsAs [0b00_11_1011] (.ofDecRR .sp) = true := by decide
theorem test_word_add_hl : readsAs [0b00_01_1001] (.ofAddHL .de) = true := by decide
theorem test_word_jp_cc : readsAs [0b110_10_010, 0x00, 0x30] (.ofJpCC .nc 0x3000) = true := by decide
theorem test_word_jr_cc : readsAs [0b001_00_000, 0xFB] (.ofJrCC .nz 0xFB) = true := by decide
theorem test_word_call_cc : readsAs [0b110_01_100, 0x00, 0xD0] (.ofCallCC .z 0xD000) = true := by decide
theorem test_word_ret_cc : readsAs [0b110_11_000] (.ofRetCC .c) = true := by decide
theorem test_word_rst : readsAs [0b11_101_111] (.ofRst 5) = true := by decide
theorem test_word_cb_shift : readsAs [0xCB, 0b00_110_111] (.ofShift .swap .a) = true := by decide
theorem test_word_cb_bit : readsAs [0xCB, 0b01_111_100] (.bit 7 .h) = true := by decide
theorem test_word_cb_res : readsAs [0xCB, 0b10_000_111] (.res 0 .a) = true := by decide
theorem test_word_cb_set : readsAs [0xCB, 0b11_011_000] (.set 3 .b) = true := by decide
theorem test_word_stop_takes_any_byte : readsAs [0x10, 0xD3] (.stop 0xD3) = true := by decide
theorem test_truncated_is_refused : decode [0xC3, 0x34] = .error (.truncated 0xC3) := rfl

/-- A CB row of spec/opcode_table.json has 0xCB in bits 15..8 (R96). -/
theorem test_table_word_cb : decodeTableWord 16 0xCB37 = some (.swap .a) := by decide

theorem test_table_word_short : decodeTableWord 8 0xC3 = some (.jp_nn 0x0000) := by decide

/-- A table row's word runs as the first instruction after reset. -/
theorem test_fetch_word : runs (State.reset.withFetchWord 8 0x3C) (fun t => t.a == 0x02 && t.pc == 0x0101) = true := by
  decide

/-! ## Construction (70_reset_and_hazards.md R235, R236) -/

theorem test_reset_registers : State.reset.a = 0x01 ∧ State.reset.f = 0xB0 ∧ State.reset.sp = 0xFFFE ∧
    State.reset.pc = 0x0100 ∧ State.reset.ime = false := by decide

theorem test_rom_image : (State.construct [0x3E, 0x00, 0x12] Config.postBoot).mem = [(0, 0x3E), (2, 0x12)] := by decide

/-! ## Steps: rows of 95_test_vectors.md -/

theorem test_V_LD_1 :
    runs { launch [0x41] [] with c := 0x5A } (fun t =>
      t.b == 0x5A && t.f == 0xB0 && t.pc == 0xC001 && t.cycles == 4) = true := by decide

theorem test_V_LD_2 :
    runs { launch [0x77] [] with a := 0x3C, h := 0xC1, l := 0x00 } (fun t =>
      t.f == 0xB0 && t.pc == 0xC001 && t.peek 0xC100 == 0x3C && t.cycles == 8 && t.bus.drop 1 == [.write 0xC100 0x3C]) = true := by decide

theorem test_V_LD_3 :
    runs { launch [0x7E] [] with a := 0x00, h := 0xE0, l := 0x00 } (fun t =>
      t.a == 0xFF && t.pc == 0xC001 && t.cycles == 8 && t.bus.drop 1 == [.read 0xE000 0xFF]) = true := by decide

theorem test_V_LD_5 :
    runs { launch [0x36, 0x99] [] with h := 0xC0, l := 0x00 } (fun t =>
      t.pc == 0xC002 && t.peek 0xC000 == 0x99 && t.cycles == 12 && t.bus.drop 2 == [.write 0xC000 0x99]) = true := by decide

theorem test_V_LD_6 :
    runs { launch [0x36, 0x99] [] with h := 0x20, l := 0x00 } (fun t =>
      t.pc == 0xC002 && t.cycles == 12 && t.bus.drop 2 == [.write 0x2000 0x99]) = true := by decide

theorem test_V_LD_7 :
    runs { launch [0x0A] [(0xC123, 0x77)] with b := 0xC1, c := 0x23 } (fun t =>
      t.a == 0x77 && t.pc == 0xC001 && t.cycles == 8 && t.bus.drop 1 == [.read 0xC123 0x77]) = true := by decide

theorem test_V_LD_8 :
    runs { launch [0x12] [] with a := 0x44, d := 0x80, e := 0x00 } (fun t =>
      t.pc == 0xC001 && t.peek 0x8000 == 0x44 && t.cycles == 8 && t.bus.drop 1 == [.write 0x8000 0x44]) = true := by decide

theorem test_V_LD_9 :
    runs { launch [0x22] [] with a := 0x1F, h := 0xFF, l := 0xFF } (fun t =>
      t.h == 0x00 && t.l == 0x00 && t.pc == 0xC001 && t.peek 0xFFFF == 0x1F && t.cycles == 8 && t.bus.drop 1 == [.write 0xFFFF 0x1F]) = true := by decide

theorem test_V_LD_10 :
    runs { launch [0x3A] [(0x0000, 0xAB)] with h := 0x00, l := 0x00 } (fun t =>
      t.a == 0xAB && t.h == 0xFF && t.l == 0xFF && t.pc == 0xC001 && t.cycles == 8 && t.bus.drop 1 == [.read 0x0000 0xAB]) = true := by decide

theorem test_V_LD_11 :
    runs { launch [0x2A] [(0xC010, 0x5E)] with h := 0xC0, l := 0x10 } (fun t =>
      t.a == 0x5E && t.h == 0xC0 && t.l == 0x11 && t.pc == 0xC001 && t.cycles == 8 && t.bus.drop 1 == [.read 0xC010 0x5E]) = true := by decide

theorem test_V_LD_11b :
    runs { launch [0x32] [] with a := 0x5E, h := 0xC0, l := 0x10 } (fun t =>
      t.h == 0xC0 && t.l == 0x0F && t.pc == 0xC001 && t.peek 0xC010 == 0x5E && t.cycles == 8 && t.bus.drop 1 == [.write 0xC010 0x5E]) = true := by decide

theorem test_V_LD_13 :
    runs { launch [0xEA, 0x34, 0x12] [] with a := 0x66 } (fun t =>
      t.pc == 0xC003 && t.cycles == 16 && t.bus.drop 3 == [.write 0x1234 0x66]) = true := by decide

theorem test_V_LD_14 :
    runs (launch [0xFA, 0x00, 0xD0] [(0xD000, 0x42)]) (fun t =>
      t.a == 0x42 && t.pc == 0xC003 && t.cycles == 16 && t.bus.drop 3 == [.read 0xD000 0x42]) = true := by decide

theorem test_V_LD_15 :
    runs { launch [0xE0, 0x80] [] with a := 0x9C } (fun t =>
      t.pc == 0xC002 && t.peek 0xFF80 == 0x9C && t.cycles == 12 && t.bus.drop 2 == [.write 0xFF80 0x9C]) = true := by decide

theorem test_V_LD_15b :
    runs (launch [0xF0, 0xFF] [(0xFFFF, 0x1F)]) (fun t =>
      t.a == 0x1F && t.pc == 0xC002 && t.cycles == 12 && t.bus.drop 2 == [.read 0xFFFF 0x1F]) = true := by decide

theorem test_V_LD_15c :
    runs { launch [0xE2] [] with a := 0x11, c := 0x85 } (fun t =>
      t.pc == 0xC001 && t.peek 0xFF85 == 0x11 && t.cycles == 8 && t.bus.drop 1 == [.write 0xFF85 0x11]) = true := by decide

theorem test_V_LD_15d :
    runs { launch [0xF2] [(0xFF44, 0x90)] with c := 0x44 } (fun t =>
      t.a == 0x90 && t.pc == 0xC001 && t.cycles == 8 && t.bus.drop 1 == [.read 0xFF44 0x90]) = true := by decide

theorem test_V_LD_16 :
    runs { launch [0xF1] [(0xD000, 0xFF), (0xD001, 0x12)] with sp := 0xD000 } (fun t =>
      t.a == 0x12 && t.f == 0xF0 && t.sp == 0xD002 && t.pc == 0xC001 && t.cycles == 12 && t.bus.drop 1 == [.read 0xD000 0xFF, .read 0xD001 0x12]) = true := by decide

theorem test_V_LD_17 :
    runs { launch [0xE1] [(0xD000, 0xCD), (0xD001, 0xAB)] with sp := 0xD000 } (fun t =>
      t.h == 0xAB && t.l == 0xCD && t.sp == 0xD002 && t.pc == 0xC001 && t.cycles == 12 && t.bus.drop 1 == [.read 0xD000 0xCD, .read 0xD001 0xAB]) = true := by decide

theorem test_V_LD_18 :
    runs (launch [0x21, 0x34, 0x12] []) (fun t =>
      t.h == 0x12 && t.l == 0x34 && t.pc == 0xC003 && t.cycles == 12) = true := by decide

theorem test_V_LD_19 :
    runs { launch [0x08, 0x00, 0xC0] [] with sp := 0xFFF8 } (fun t =>
      t.pc == 0xC003 && t.peek 0xC000 == 0xF8 && t.peek 0xC001 == 0xFF && t.cycles == 20 && t.bus.drop 3 == [.write 0xC000 0xF8, .write 0xC001 0xFF]) = true := by decide

theorem test_V_LD_19b :
    runs { launch [0x08, 0xFF, 0xFF] [] with sp := 0x1234 } (fun t =>
      t.pc == 0xC003 && t.peek 0xFFFF == 0x34 && t.cycles == 20 && t.bus.drop 3 == [.write 0xFFFF 0x34, .write 0x0000 0x12]) = true := by decide

theorem test_V_LD_20 :
    runs { launch [0xF5] [] with a := 0x12, f := 0xB0 } (fun t =>
      t.sp == 0xFFFC && t.pc == 0xC001 && t.peek 0xFFFD == 0x12 && t.peek 0xFFFC == 0xB0 && t.cycles == 16 && t.bus.drop 1 == [.write 0xFFFD 0x12, .write 0xFFFC 0xB0]) = true := by decide

theorem test_V_LD_21 :
    runs { launch [0xF9] [] with h := 0xD0, l := 0x00 } (fun t =>
      t.sp == 0xD000 && t.pc == 0xC001 && t.cycles == 8) = true := by decide

theorem test_V_LD_22 :
    runs { launch [0xF8, 0x08] [] with sp := 0xFFF8, f := 0x80 } (fun t =>
      t.h == 0x00 && t.l == 0x00 && t.f == 0x30 && t.pc == 0xC002 && t.cycles == 12) = true := by decide

theorem test_V_LD_24 :
    runs { launch [0xF8, 0x80] [] with sp := 0xC000 } (fun t =>
      t.h == 0xBF && t.l == 0x80 && t.f == 0x00 && t.pc == 0xC002 && t.cycles == 12) = true := by decide

theorem test_V_ALU_2 :
    runs { launch [0x86] [(0xD000, 0xC6)] with a := 0x3A, h := 0xD0, l := 0x00, f := 0x00 } (fun t =>
      t.a == 0x00 && t.f == 0xB0 && t.cycles == 8 && t.bus.drop 1 == [.read 0xD000 0xC6]) = true := by decide

theorem test_V_ALU_3 :
    runs { launch [0x89] [] with a := 0xE1, c := 0x1E, f := 0x10 } (fun t =>
      t.a == 0x00 && t.f == 0xB0 && t.cycles == 4) = true := by decide

theorem test_V_ALU_4 :
    runs { launch [0xCE, 0x0F] [] with a := 0x00, f := 0x10 } (fun t =>
      t.a == 0x10 && t.f == 0x20 && t.cycles == 8) = true := by decide

theorem test_V_ALU_5 :
    runs { launch [0x90] [] with a := 0x3E, b := 0x3E, f := 0x00 } (fun t =>
      t.a == 0x00 && t.f == 0xC0 && t.cycles == 4) = true := by decide

theorem test_V_ALU_8 :
    runs { launch [0x9F] [] with a := 0x00, f := 0x10 } (fun t =>
      t.a == 0xFF && t.f == 0x70 && t.cycles == 4) = true := by decide

theorem test_V_ALU_9 :
    runs { launch [0xDE, 0x01] [] with a := 0x00, f := 0x10 } (fun t =>
      t.a == 0xFE && t.f == 0x70 && t.cycles == 8) = true := by decide

theorem test_V_ALU_10 :
    runs { launch [0xA3] [] with a := 0x5A, e := 0x3F, f := 0x10 } (fun t =>
      t.a == 0x1A && t.f == 0x20 && t.cycles == 4) = true := by decide

theorem test_V_ALU_12 :
    runs { launch [0xAC] [] with a := 0xFF, h := 0x0F, f := 0xF0 } (fun t =>
      t.a == 0xF0 && t.f == 0x00 && t.cycles == 4) = true := by decide

theorem test_V_ALU_15 :
    runs { launch [0xF6, 0x81] [] with a := 0x10, f := 0x00 } (fun t =>
      t.a == 0x91 && t.f == 0x00 && t.cycles == 8) = true := by decide

theorem test_V_ALU_18 :
    runs { launch [0xFE, 0x40] [] with a := 0x3C, f := 0x00 } (fun t =>
      t.a == 0x3C && t.f == 0x50 && t.cycles == 8) = true := by decide

theorem test_V_ID_1 :
    runs { launch [0x3C] [] with a := 0x0F, f := 0x00 } (fun t =>
      t.a == 0x10 && t.f == 0x20 && t.cycles == 4) = true := by decide

theorem test_V_ID_3 :
    runs { launch [0x0D] [] with c := 0x01, f := 0x10 } (fun t =>
      t.c == 0x00 && t.f == 0xD0 && t.cycles == 4) = true := by decide

theorem test_V_ID_4 :
    runs { launch [0x34] [(0xD000, 0x7F)] with h := 0xD0, l := 0x00, f := 0x10 } (fun t =>
      t.f == 0x30 && t.peek 0xD000 == 0x80 && t.cycles == 12 && t.bus.drop 1 == [.read 0xD000 0x7F, .write 0xD000 0x80]) = true := by decide

theorem test_V_ID_5 :
    runs { launch [0x35] [(0xD000, 0x00)] with h := 0xD0, l := 0x00, f := 0x80 } (fun t =>
      t.f == 0x60 && t.peek 0xD000 == 0xFF && t.cycles == 12 && t.bus.drop 1 == [.read 0xD000 0x00, .write 0xD000 0xFF]) = true := by decide

theorem test_V_ID_7 :
    runs { launch [0x03] [] with b := 0xFF, c := 0xFF, f := 0xA0 } (fun t =>
      t.b == 0x00 && t.c == 0x00 && t.f == 0xA0 && t.cycles == 8) = true := by decide

theorem test_V_ID_8 :
    runs { launch [0x3B] [] with sp := 0x0000, f := 0x00 } (fun t =>
      t.sp == 0xFFFF && t.f == 0x00 && t.cycles == 8) = true := by decide

theorem test_V_W_2 :
    runs { launch [0x29] [] with h := 0x80, l := 0x00, f := 0x80 } (fun t =>
      t.h == 0x00 && t.l == 0x00 && t.f == 0x90 && t.cycles == 8) = true := by decide

theorem test_V_W_3 :
    runs { launch [0x39] [] with h := 0x12, l := 0x34, sp := 0xFFFE, f := 0x40 } (fun t =>
      t.h == 0x12 && t.l == 0x32 && t.f == 0x30 && t.cycles == 8) = true := by decide

theorem test_V_W_5 :
    runs { launch [0xE8, 0x08] [] with sp := 0xFFF8, f := 0x00 } (fun t =>
      t.sp == 0x0000 && t.f == 0x30 && t.cycles == 16) = true := by decide

theorem test_V_W_6 :
    runs { launch [0xE8, 0x80] [] with sp := 0xC000, f := 0xF0 } (fun t =>
      t.sp == 0xBF80 && t.f == 0x00 && t.cycles == 16) = true := by decide

theorem test_V_DAA_1 :
    runs { launch [0x27] [] with a := 0x9A, f := 0x00 } (fun t =>
      t.a == 0x00 && t.f == 0x90 && t.cycles == 4) = true := by decide

theorem test_V_DAA_4 :
    runs { launch [0x27] [] with a := 0x00, f := 0x70 } (fun t =>
      t.a == 0x9A && t.f == 0x50 && t.cycles == 4) = true := by decide

theorem test_V_FL_1 :
    runs { launch [0x2F] [] with a := 0x35, f := 0x90 } (fun t =>
      t.a == 0xCA && t.f == 0xF0 && t.cycles == 4) = true := by decide

theorem test_V_FL_2 :
    runs { launch [0x37] [] with f := 0xE0 } (fun t =>
      t.f == 0x90 && t.cycles == 4) = true := by decide

theorem test_V_FL_3 :
    runs { launch [0x3F] [] with f := 0x70 } (fun t =>
      t.f == 0x00 && t.cycles == 4) = true := by decide

theorem test_V_RA_2 :
    runs { launch [0x07] [] with a := 0x00, f := 0xF0 } (fun t =>
      t.a == 0x00 && t.f == 0x00 && t.cycles == 4) = true := by decide

theorem test_V_RA_3 :
    runs { launch [0x0F] [] with a := 0x01, f := 0x00 } (fun t =>
      t.a == 0x80 && t.f == 0x10 && t.cycles == 4) = true := by decide

theorem test_V_RA_4 :
    runs { launch [0x17] [] with a := 0x95, f := 0x10 } (fun t =>
      t.a == 0x2B && t.f == 0x10 && t.cycles == 4) = true := by decide

theorem test_V_RA_6 :
    runs { launch [0x1F] [] with a := 0x01, f := 0x00 } (fun t =>
      t.a == 0x00 && t.f == 0x10 && t.cycles == 4) = true := by decide

theorem test_V_CB_2 :
    runs { launch [0xCB, 0x01] [] with c := 0x00, f := 0x10 } (fun t =>
      t.c == 0x00 && t.f == 0x80 && t.cycles == 8) = true := by decide

theorem test_V_CB_3 :
    runs { launch [0xCB, 0x09] [] with c := 0x01, f := 0x00 } (fun t =>
      t.c == 0x80 && t.f == 0x10 && t.cycles == 8) = true := by decide

theorem test_V_CB_4 :
    runs { launch [0xCB, 0x12] [] with d := 0x11, f := 0x10 } (fun t =>
      t.d == 0x23 && t.f == 0x00 && t.cycles == 8) = true := by decide

theorem test_V_CB_6 :
    runs { launch [0xCB, 0x1B] [] with e := 0x8A, f := 0x10 } (fun t =>
      t.e == 0xC5 && t.f == 0x00 && t.cycles == 8) = true := by decide

theorem test_V_CB_7 :
    runs { launch [0xCB, 0x24] [] with h := 0xFF, f := 0x00 } (fun t =>
      t.h == 0xFE && t.f == 0x10 && t.cycles == 8) = true := by decide

theorem test_V_CB_8 :
    runs { launch [0xCB, 0x2D] [] with l := 0x8A, f := 0x00 } (fun t =>
      t.l == 0xC5 && t.f == 0x00 && t.cycles == 8) = true := by decide

theorem test_V_CB_10 :
    runs { launch [0xCB, 0x37] [] with a := 0x00, f := 0x10 } (fun t =>
      t.a == 0x00 && t.f == 0x80 && t.cycles == 8) = true := by decide

theorem test_V_CB_11 :
    runs { launch [0xCB, 0x3F] [] with a := 0x8F, f := 0x00 } (fun t =>
      t.a == 0x47 && t.f == 0x10 && t.cycles == 8) = true := by decide

theorem test_V_CB_12 :
    runs { launch [0xCB, 0x06] [(0xD000, 0x80)] with h := 0xD0, l := 0x00, f := 0x00 } (fun t =>
      t.f == 0x10 && t.peek 0xD000 == 0x01 && t.cycles == 16 && t.bus.drop 2 == [.read 0xD000 0x80, .write 0xD000 0x01]) = true := by decide

theorem test_V_CB_14 :
    runs { launch [0xCB, 0x7C] [] with h := 0x80, f := 0x10 } (fun t =>
      t.f == 0x30 && t.cycles == 8) = true := by decide

theorem test_V_CB_16 :
    runs { launch [0xCB, 0x46] [(0xD000, 0xFE)] with h := 0xD0, l := 0x00, f := 0x00 } (fun t =>
      t.f == 0xA0 && t.cycles == 12 && t.bus.drop 2 == [.read 0xD000 0xFE]) = true := by decide

theorem test_V_CB_17 :
    runs { launch [0xCB, 0xBE] [(0xD000, 0xFF)] with h := 0xD0, l := 0x00, f := 0xF0 } (fun t =>
      t.f == 0xF0 && t.peek 0xD000 == 0x7F && t.cycles == 16 && t.bus.drop 2 == [.read 0xD000 0xFF, .write 0xD000 0x7F]) = true := by decide

theorem test_V_CB_20 :
    runs { launch [0xCB, 0xD8] [] with b := 0x00, f := 0x80 } (fun t =>
      t.b == 0x08 && t.f == 0x80 && t.cycles == 8) = true := by decide

theorem test_V_CB_21 :
    runs { launch [0xCB, 0xC6] [] with h := 0x10, l := 0x00 } (fun t =>
      t.peek 0x1000 == 0x00 && t.cycles == 16 && t.bus.drop 2 == [.read 0x1000 0x00, .write 0x1000 0x01]) = true := by decide

theorem test_V_CT_1 :
    runs (launch [0xC3, 0x00, 0x80] []) (fun t =>
      t.pc == 0x8000 && t.cycles == 16) = true := by decide

theorem test_V_CT_2 :
    runs { launch [0xE9] [] with h := 0xE0, l := 0x00 } (fun t =>
      t.pc == 0xE000 && t.cycles == 4) = true := by decide

theorem test_V_CT_3 :
    runs { launch [0xC2, 0x00, 0x30] [] with f := 0x00 } (fun t =>
      t.pc == 0x3000 && t.cycles == 16) = true := by decide

theorem test_V_CT_4 :
    runs { launch [0xC2, 0x00, 0x30] [] with f := 0x80 } (fun t =>
      t.pc == 0xC003 && t.cycles == 12) = true := by decide

theorem test_V_CT_7 :
    runs (launch [0x18, 0x80] []) (fun t =>
      t.pc == 0xBF82 && t.cycles == 12) = true := by decide

theorem test_V_CT_9 :
    runs { launch [0x20, 0xFB] [] with f := 0x00 } (fun t =>
      t.pc == 0xBFFD && t.cycles == 12) = true := by decide

theorem test_V_CT_12 :
    runs { launch [0x30, 0x02] [] with f := 0x10 } (fun t =>
      t.pc == 0xC002 && t.cycles == 8) = true := by decide

theorem test_V_CT_14 :
    runs { launch [0xCD, 0x34, 0x12] [] with sp := 0x0000 } (fun t =>
      t.sp == 0xFFFE && t.pc == 0x1234 && t.peek 0xFFFF == 0xC0 && t.peek 0xFFFE == 0x03 && t.cycles == 24 && t.bus.drop 3 == [.write 0xFFFF 0xC0, .write 0xFFFE 0x03]) = true := by decide

theorem test_V_CT_16 :
    runs { launch [0xD4, 0x00, 0xD0] [] with sp := 0xD000, f := 0x10 } (fun t =>
      t.pc == 0xC003 && t.cycles == 12) = true := by decide

theorem test_V_CT_17 :
    runs { launch [0xCC, 0x00, 0xD0] [] with sp := 0xD000, f := 0x80 } (fun t =>
      t.sp == 0xCFFE && t.pc == 0xD000 && t.cycles == 24 && t.bus.drop 3 == [.write 0xCFFF 0xC0, .write 0xCFFE 0x03]) = true := by decide

theorem test_V_CT_18 :
    runs { launch [0xC9] [(0xD000, 0x34), (0xD001, 0x12)] with sp := 0xD000 } (fun t =>
      t.sp == 0xD002 && t.pc == 0x1234 && t.cycles == 16 && t.bus.drop 1 == [.read 0xD000 0x34, .read 0xD001 0x12]) = true := by decide

theorem test_V_CT_19 :
    runs { launch [0xD9] [(0xD000, 0x34), (0xD001, 0x12)] with sp := 0xD000, ime := false } (fun t =>
      t.sp == 0xD002 && t.pc == 0x1234 && t.ime == true && t.cycles == 16 && t.bus.drop 1 == [.read 0xD000 0x34, .read 0xD001 0x12]) = true := by decide

theorem test_V_CT_21 :
    runs { launch [0xD8] [(0xD000, 0x34), (0xD001, 0x12)] with sp := 0xD000, f := 0x00 } (fun t =>
      t.pc == 0xC001 && t.cycles == 8) = true := by decide

theorem test_V_CT_22 :
    runs { launch [0xC0] [(0xD000, 0x34), (0xD001, 0x12)] with sp := 0xD000, f := 0x00 } (fun t =>
      t.sp == 0xD002 && t.pc == 0x1234 && t.cycles == 20 && t.bus.drop 1 == [.read 0xD000 0x34, .read 0xD001 0x12]) = true := by decide

theorem test_V_RST_7 :
    runs { launch [0xFF] [] with sp := 0xD000 } (fun t =>
      t.pc == 0x0038 && t.sp == 0xCFFE && t.cycles == 16 && t.bus.drop 1 == [.write 0xCFFF 0xC0, .write 0xCFFE 0x01]) = true := by decide

theorem test_V_LT_1 :
    runs (launch [0x00] []) (fun t =>
      t.pc == 0xC001 && t.cycles == 4) = true := by decide

theorem test_V_LT_2 :
    runs { launch [0xF3] [] with ime := true } (fun t =>
      t.ime == false && t.pc == 0xC001 && t.cycles == 4) = true := by decide

theorem test_V_LT_3 :
    runs { launch [0xFB] [] with ime := false } (fun t =>
      t.ime == true && t.pc == 0xC001 && t.cycles == 4) = true := by decide

theorem test_V_LT_5 :
    runs (launch [0x76] []) (fun t =>
      t.pc == 0xC001 && t.cycles == 4) = true := by decide

theorem test_V_LT_7 :
    runs (launch [0x10, 0xD3] []) (fun t =>
      t.pc == 0xC002 && t.cycles == 4) = true := by decide

theorem test_V_ST_1 :
    runs { launch [0xC5] [] with sp := 0x0001, b := 0x12, c := 0x34 } (fun t =>
      t.sp == 0xFFFF && t.peek 0xFFFF == 0x34 && t.cycles == 16 && t.bus.drop 1 == [.write 0x0000 0x12, .write 0xFFFF 0x34]) = true := by decide

theorem test_V_ST_2 :
    runs { launch [0xD1] [(0xFFFF, 0x56), (0x0000, 0x00)] with sp := 0xFFFF } (fun t =>
      t.d == 0x00 && t.e == 0x56 && t.sp == 0x0001 && t.cycles == 12 && t.bus.drop 1 == [.read 0xFFFF 0x56, .read 0x0000 0x00]) = true := by decide

/-- V-UN-1: the fault names the byte and its address (60_exceptions.md R213). -/
theorem test_V_UN_1 : faults (launch [0xD3] []) (.unknownOpcode 0xD3 0xC000) = true := by decide

theorem test_V_UN_11 : faults (launch [0xFD] []) (.unknownOpcode 0xFD 0xC000) = true := by decide

/-- Program P5's second step, with STOP's own operand byte no opcode. -/
theorem test_P5b :
    faults { launch [0x10, 0xD3, 0xDD] [] with pc := 0xC002 } (.unknownOpcode 0xDD 0xC002) = true := by decide

/-- V-CT-23: in Echo every fetch reads 0xFF, RST 0x38. -/
theorem test_V_CT_23 : runs { State.reset with pc := 0xE000, sp := 0xD000 } (fun t =>
    t.pc == 0x0038 && t.sp == 0xCFFE && t.bus.drop 1 == [.write 0xCFFF 0xE0, .write 0xCFFE 0x01]) = true := by decide

/-! ## A substituted bus (00_scope.md R8): it is asked for the accesses of 20_memory.md R68, in order, and the MMU for none -/

/-- A block constructed with a bus that answers these bytes. -/
def scripted (replies : List Byte) : State := State.construct [0x3C] Config.postBoot (.substituted replies [])

/-- INC (HL): opcode fetch, read at HL, write at HL. -/
theorem test_substituted_inc_atHL :
    runs { scripted [0x34, 0x7F, 0x55] with h := 0x80, l := 0x00 } (fun t =>
      t.backend == .substituted [0x55] [.read 0x0100 0x34, .read 0x8000 0x7F, .write 0x8000 0x80] &&
      t.mem == [] && t.f == 0x30 && t.pc == 0x0101 && t.cycles == 12) = true := by decide

/-- A bus with side effects: POP BC reads the low byte, then the high byte, at one address after the other. -/
theorem test_substituted_pop_bc :
    runs { scripted [0xC1, 0xEF, 0xBE] with sp := 0xE000 } (fun t =>
      t.b == 0xBE && t.c == 0xEF && t.sp == 0xE002 &&
      t.backend == .substituted [] [.read 0x0100 0xC1, .read 0xE000 0xEF, .read 0xE001 0xBE]) = true := by decide

theorem test_substituted_unknown : faults (scripted [0xDD]) (.unknownOpcode 0xDD 0x0100) = true := by decide

theorem test_substituted_fetch_word :
    runs ((scripted [0x77]).withFetchWord 16 0x123E) (fun t => t.a == 0x12 &&
      t.backend == .substituted [0x77] [.read 0x0100 0x3E, .read 0x0101 0x12]) = true := by decide

theorem test_construct_defaults_to_mmu :
    (State.construct [0x3C] Config.postBoot).backend = .mmu ∧ (State.construct [0x3C] Config.postBoot).mem = [(0, 0x3C)] :=
  ⟨rfl, rfl⟩

/-! ## Witnesses: a concrete case that meets the hypotheses of each statement, and of each clause -/

/-- A running state in Work RAM: HL, SP and the operand bytes in storing regions. -/
def sample : State := { launch [0x34] [(0xD000, 0x7F)] with h := 0xD0, l := 0x00, sp := 0xDFFE }

theorem witness_DecodeEncodeRoundTrip : (Instr.bit 7 .a).WellFormed = true ∧ (Instr.ld_sp_nn 0xFFFF).WellFormed = true ∧
    (Instr.unknown 0xD3).WellFormed = true := by decide

theorem witness_EncodeDecodeRoundTrip : decode [0xCB, 0xFF, 0x00] = .ok (.set 7 .a, [0x00]) := rfl

theorem witness_EveryCbByteIsDefined : (0x3F : Byte).toNat ≤ 0x3F ∧ 0x40 ≤ (0x40 : Byte).toNat := by decide

theorem witness_StepRunsDecodedInstruction :
    Instr.inc_atHL.WellFormed = true ∧ sample.holds sample.pc (encode .inc_atHL) := ⟨rfl, rfl, trivial⟩

/-- On a substituted bus, which answers the two bytes. -/
theorem witness_StepRunsDecodedInstruction_substituted :
    let s := scripted [0x10, 0xD3]
    s.holds s.pc (encode (.stop 0xD3)) := ⟨rfl, rfl, trivial⟩

/-- At the last address: the second byte of STOP is read at 0x0000. -/
theorem witness_StepRunsDecodedInstruction_wrap :
    let s := { State.construct [0xD3] Config.postBoot with pc := 0xFFFF, mem := [(0, 0xD3), (0xFFFF, 0x10)] }
    s.holds s.pc (encode (.stop 0xD3)) := ⟨rfl, rfl, trivial⟩

theorem witness_OnlyUnknownOpcodesStopAStep :
    (launch [0xFD] []).reply 0xC000 ∈ [0xD3, 0xDB, 0xDD, 0xE3, 0xE4, 0xEB, 0xEC, 0xED, 0xF4, 0xFC, 0xFD] ∧
    (launch [0xFE] []).reply 0xC000 ∉ [0xD3, 0xDB, 0xDD, 0xE3, 0xE4, 0xEB, 0xEC, 0xED, 0xF4, 0xFC, 0xFD] := by decide

theorem witness_StepKeepsInvariant : sample.Inv ∧ ∃ t, step sample = .next t :=
  ⟨⟨by decide, by decide, rfl⟩, _, rfl⟩

/-- JR NZ taken and not taken, and a CB form on (HL). -/
theorem witness_StepReturnsDocumentedCount :
    runs { launch [0x20, 0xFB] [] with f := 0x00 } (fun t => t.cycles == 12) = true ∧
    runs { launch [0x20, 0xFB] [] with f := 0x80 } (fun t => t.cycles == 8) = true ∧
    runs { sample with mem := [(0xC000, 0xCB), (0xC001, 0x46)] } (fun t => t.cycles == 12) = true := by decide

/-- INC (HL) on a substituted bus; and on the MMU, where it reads two bytes, against a script with one more after them. -/
theorem witness_StepIsAgnosticToTheBackend :
    (scripted [0x34, 0x7F]).backend ≠ .mmu ∧ runs (scripted [0x34, 0x7F]) (fun _ => true) = true ∧
    runs sample (fun t => readBytes t.bus == [0x34, 0x7F] &&
      runs (sample.onBus [] (.substituted [0x34, 0x7F, 0x55] [])) (fun u =>
        u == t.onBus [] (.substituted [0x55] t.bus))) = true := by decide

theorem witness_AddressMapHasTenRegions :
    sample.backend = .mmu ∧
    regionOf 0x7FFF = .rom ∧ regionOf 0x8000 = .vram ∧ regionOf 0xA000 = .externalRam ∧ regionOf 0xDFFF = .workRam ∧
    regionOf 0xE000 = .echo ∧ regionOf 0xFE9F = .oam ∧ regionOf 0xFEA0 = .unusable ∧ regionOf 0xFF7F = .io ∧
    regionOf 0xFFFE = .hram ∧ regionOf 0xFFFF = .ie := by decide

theorem witness_WritesStoreOrAreDiscarded :
    sample.backend = .mmu ∧
    regionOf 0xFFFF ∈ [Region.vram, .externalRam, .workRam, .oam, .io, .hram, .ie] ∧
    regionOf 0x8000 ∈ [Region.vram, .externalRam, .workRam, .oam, .io, .hram, .ie] ∧
    regionOf 0x7FFF ∈ [Region.rom, .unusable] ∧ regionOf 0xFEFF = .unusable := by decide

/-- INC (HL) on Work RAM changes a byte. -/
theorem witness_StepChangesOnlyWhatItWrites :
    runs sample (fun t => t.peek 0xD000 != sample.peek 0xD000) = true := by decide

/-- LD (HL),A at the last byte of ROM and in Echo completes. -/
theorem witness_StepsNeverChangeRomEchoUnusable :
    runs { launch [0x77] [] with h := 0x7F, l := 0xFF } (fun _ => true) = true ∧ (0x7FFF : Word).toNat < 0x8000 ∧
    runs { launch [0x77] [] with h := 0xE0, l := 0x00 } (fun _ => true) = true ∧
    regionOf (0xFEFF : Word).toNat ∈ [Region.echo, .unusable] := by decide

theorem witness_PushThenPopRestores :
    sample.backend = .mmu ∧
    (regionOf (sample.sp - 1).toNat).stores = true ∧ (regionOf (sample.sp - 2).toNat).stores = true ∧
    (regionOf ((0x0000 : Word) - 1).toNat).stores = true ∧ (regionOf ((0x0000 : Word) - 2).toNat).stores = true := by
  decide

theorem witness_CallThenRetReturns :
    sample.backend = .mmu ∧
    Instr.call_nn 0x1234 ∈ [Instr.call_nn 0x1234, .ofRst 7] ∧ Instr.ofRst 7 ∈ [Instr.call_nn 0x1234, .ofRst 7] ∧
    (regionOf (sample.sp - 1).toNat).stores = true ∧ (regionOf (sample.sp - 2).toNat).stores = true := by decide

theorem witness_OnlyDiEiRetiWriteIME :
    (∃ t, exec .di sample = .next t) ∧ (∃ t, exec .ei sample = .next t) ∧ (∃ t, exec .reti sample = .next t) ∧
    ∃ t, exec .ret sample = .next t := ⟨⟨_, rfl⟩, ⟨_, rfl⟩, ⟨_, rfl⟩, _, rfl⟩

theorem witness_NothingDependsOnIME : ∃ t, step sample = .next t := ⟨_, rfl⟩

theorem witness_LdRegRegCopies : ¬(R8.h = .atHL ∧ R8.atHL = .atHL) ∧ ¬(R8.atHL = .atHL ∧ R8.l = .atHL) := by decide

theorem witness_StoresOfAWriteOneByte :
    (Instr.ldh_atN_a 0xFF, [(0xE0 : Byte), 0xFF], (0xFFFF : Word), 12) ∈
      [(Instr.ld_atBC_a, [0x02], sample.bc, 8), (.ld_atDE_a, [0x12], sample.de, 8),
       (.ld_atNn_a 0x7FFF, [0xEA, lo8 0x7FFF, hi8 0x7FFF], 0x7FFF, 16),
       (.ldh_atN_a 0xFF, [0xE0, 0xFF], 0xFF00 + zext16 0xFF, 12), (.ld_atC_a, [0xE2], 0xFF00 + zext16 sample.c, 8)] := by
  decide

theorem witness_LoadsOfAReadOneByte :
    (Instr.ld_a_atNn 0xFEA0, [(0xFA : Byte), 0xA0, 0xFE], (0xFEA0 : Word), 16) ∈
      [(Instr.ld_a_atBC, [0x0A], sample.bc, 8), (.ld_a_atDE, [0x1A], sample.de, 8),
       (.ld_a_atNn 0xFEA0, [0xFA, lo8 0xFEA0, hi8 0xFEA0], 0xFEA0, 16),
       (.ldh_a_atN 0, [0xF0, 0], 0xFF00 + zext16 0, 12), (.ld_a_atC, [0xF2], 0xFF00 + zext16 sample.c, 8)] := by
  decide

/-- HL at the ends of its range, where it wraps. -/
theorem witness_LdiLddStoreThenMoveHL :
    let s := { sample with h := 0xFF, l := 0xFF }
    let u := { sample with h := 0x00, l := 0x00 }
    (Instr.ldi_atHL_a, [(0x22 : Byte)], 0x0000) ∈
      [(Instr.ldi_atHL_a, [0x22], (s.hl.toNat + 1) % 65536), (.ldd_atHL_a, [0x32], (s.hl.toNat + 65535) % 65536)] ∧
    (Instr.ldd_atHL_a, [(0x32 : Byte)], 0xFFFF) ∈
      [(Instr.ldi_atHL_a, [0x22], (u.hl.toNat + 1) % 65536), (.ldd_atHL_a, [0x32], (u.hl.toNat + 65535) % 65536)] := by
  decide

theorem witness_LdiLddLoadThenMoveHL :
    let s := { sample with h := 0xFF, l := 0xFF }
    let u := { sample with h := 0x00, l := 0x00 }
    (Instr.ldi_a_atHL, [(0x2A : Byte)], 0x0000) ∈
      [(Instr.ldi_a_atHL, [0x2A], (s.hl.toNat + 1) % 65536), (.ldd_a_atHL, [0x3A], (s.hl.toNat + 65535) % 65536)] ∧
    (Instr.ldd_a_atHL, [(0x3A : Byte)], 0xFFFF) ∈
      [(Instr.ldi_a_atHL, [0x2A], (u.hl.toNat + 1) % 65536), (.ldd_a_atHL, [0x3A], (u.hl.toNat + 65535) % 65536)] := by
  decide

theorem witness_PushStoresPair : R16s.af = .af ∧ sample.f = 0xB0 ∧ sample.f &&& 0x0F = 0 := by decide

theorem witness_PopLoadsPair : R16s.hl ≠ .af ∧ R16s.af = .af := by decide

/-- Both forms, without and with a carry in. -/
theorem witness_AddAdcCompute :
    (AluOp.add, 0) ∈ [(AluOp.add, 0), (.adc, if sample.cf then 1 else 0)] ∧
    (AluOp.adc, 1) ∈ [(AluOp.add, 0), (.adc, if sample.cf then 1 else 0)] ∧
    (Instr.adc_a_atHL, (0x7F : Byte), [(0x8E : Byte)], 8, [BusAccess.read 0xD000 0x7F]) ∈
      sample.aluForms .adc .atHL 0x0F ∧
    (Instr.add_a_n 0x0F, (0x0F : Byte), [(0xC6 : Byte), 0x0F], 8, ([] : List BusAccess)) ∈ sample.aluForms .add .b 0x0F := by
  decide

theorem witness_SubSbcCompute :
    (AluOp.sub, 0) ∈ [(AluOp.sub, 0), (.sbc, if sample.cf then 1 else 0)] ∧
    (AluOp.sbc, 1) ∈ [(AluOp.sub, 0), (.sbc, if sample.cf then 1 else 0)] ∧
    (Instr.sbc_a_a, (0x01 : Byte), [(0x9F : Byte)], 4, ([] : List BusAccess)) ∈ sample.aluForms .sbc .a 0x40 ∧
    (Instr.sub_n 0x40, (0x40 : Byte), [(0xD6 : Byte), 0x40], 8, ([] : List BusAccess)) ∈ sample.aluForms .sub .a 0x40 := by
  decide

theorem witness_LogicComputes :
    (AluOp.xor, (0x7E : Byte), false) ∈
      [(AluOp.and, sample.a &&& 0x7F, true), (.xor, sample.a ^^^ 0x7F, false), (.or, sample.a ||| 0x7F, false)] ∧
    (Instr.xor_atHL, (0x7F : Byte), [(0xAE : Byte)], 8, [BusAccess.read 0xD000 0x7F]) ∈
      sample.aluForms .xor .atHL 0x00 := by decide

theorem witness_CompareChangesFlagsOnly :
    (Instr.cp_n 0x2F, (0x2F : Byte), [(0xFE : Byte), 0x2F], 8, ([] : List BusAccess)) ∈ sample.aluForms .cp .b 0x2F ∧
    (Instr.cp_a, (0x01 : Byte), [(0xBF : Byte)], 4, ([] : List BusAccess)) ∈ sample.aluForms .cp .a 0x2F := by decide

theorem witness_IncDecPairTouchNoFlag :
    let s := { sample with sp := 0x0000 }
    (Instr.dec_sp, [(0x3B : Byte)], 0xFFFF) ∈
      [(Instr.ofIncRR .sp, [BitVec.ofNat 8 (0x03 + 16 * R16.sp.index)], ((s.readR16 .sp).toNat + 1) % 65536),
       (.ofDecRR .sp, [BitVec.ofNat 8 (0x0B + 16 * R16.sp.index)], ((s.readR16 .sp).toNat + 65535) % 65536)] := by
  decide

/-- N = 0 with A on the two sides of the high correction, and N = 1. -/
theorem witness_DaaAdjusts :
    ({ sample with f := 0x00, a := 0x9A } : State).nf = false ∧ ({ sample with f := 0x00, a := 0x99 } : State).nf = false ∧
    ({ sample with f := 0x70 } : State).nf = true := by decide

theorem witness_CplScfCcfPreserveZ :
    (Instr.ccf, [(0x3F : Byte)], 0x01, 0, 0, 0) ∈
      [(Instr.cpl, [0x2F], 0xFF - sample.a.toNat, 1, 1, if sample.cf then 1 else 0), (.scf, [0x37], sample.a.toNat, 0, 0, 1),
       (.ccf, [0x3F], sample.a.toNat, 0, 0, if sample.cf then 0 else 1)] := by decide

theorem witness_AccumulatorRotatesForceZ :
    let s := { sample with a := 0x80, f := 0x00 }
    (Instr.rla, [(0x17 : Byte)], 0x00, true) ∈
      [(Instr.rlca, [0x07], (2 * s.a.toNat) % 256 + s.a.toNat / 128, s.a.getLsbD 7),
       (.rrca, [0x0F], s.a.toNat / 2 + 128 * (s.a.toNat % 2), s.a.getLsbD 0),
       (.rla, [0x17], (2 * s.a.toNat) % 256 + s.cf.toNat, s.a.getLsbD 7),
       (.rra, [0x1F], s.a.toNat / 2 + 128 * s.cf.toNat, s.a.getLsbD 0)] := by decide

theorem witness_CbRotatesAndShifts :
    let v := (sample.r8 .atHL).toNat
    (Instr.swap .atHL, 6, 0xF7, false) ∈
      [(Instr.sra .atHL, 5, v / 2 + 128 * (v / 128), (sample.r8 .atHL).getLsbD 0),
       (.swap .atHL, 6, 16 * (v % 16) + v / 16, false), (.srl .atHL, 7, v / 2, (sample.r8 .atHL).getLsbD 0)] := by decide

theorem witness_ResSetChangeOneBit :
    (Instr.res 7 .a, 0x80, false) ∈ [(Instr.res 7 .a, 0x80, false), (.set 7 .a, 0xC0, true)] ∧
    (Instr.set 7 .a, 0xC0, true) ∈ [(Instr.res 7 .a, 0x80, false), (.set 7 .a, 0xC0, true)] := by decide

theorem witness_JumpsSetPC :
    (Instr.jp_hl, [(0xE9 : Byte)], (0xD000 : Word), 4) ∈
      [(Instr.jp_nn 0x1234, [0xC3, lo8 0x1234, hi8 0x1234], 0x1234, 16), (.jp_hl, [0xE9], sample.hl, 4)] := by decide

/-- The four conditions, each holding and not holding, as the jumps, calls and returns take them: F = 0xB0 and F = 0. -/
theorem witness_conditions :
    let s := { sample with f := 0x00 }
    (∀ x ∈ [(Cond.nz, false), (.z, true), (.nc, false), (.c, true)],
      x ∈ [(Cond.nz, !sample.zf), (.z, sample.zf), (.nc, !sample.cf), (.c, sample.cf)]) ∧
    ∀ x ∈ [(Cond.nz, true), (.z, false), (.nc, true), (.c, false)],
      x ∈ [(Cond.nz, !s.zf), (.z, s.zf), (.nc, !s.cf), (.c, s.cf)] := by decide

theorem witness_ConditionalJump :
    (Cond.z, true) ∈ [(Cond.nz, !sample.zf), (.z, sample.zf), (.nc, !sample.cf), (.c, sample.cf)] :=
  witness_conditions.1 _ (by decide)

theorem witness_ConditionalCall :
    (Cond.nc, false) ∈ [(Cond.nz, !sample.zf), (.z, sample.zf), (.nc, !sample.cf), (.c, sample.cf)] :=
  witness_conditions.1 _ (by decide)

theorem witness_ConditionalReturn :
    (Cond.c, true) ∈ [(Cond.nz, !sample.zf), (.z, sample.zf), (.nc, !sample.cf), (.c, sample.cf)] :=
  witness_conditions.1 _ (by decide)

theorem witness_RelativeJumps :
    (Instr.jr_z_n 0x80, [(0x28 : Byte), 0x80], true, 12) ∈
      [(Instr.jr_n 0x80, [0x18, 0x80], true, 12), (.ofJrCC .nz 0x80, [0x20, 0x80], !sample.zf, if sample.zf then 8 else 12),
       (.ofJrCC .z 0x80, [0x28, 0x80], sample.zf, if sample.zf then 12 else 8)] := by decide

theorem witness_NoEffectInstructions :
    (Instr.stop 0xD3, [(0x10 : Byte), 0xD3]) ∈
      [(Instr.nop, [0x00]), (.ofLdRR .atHL .atHL, [0x76]), (.halt, [0x76]), (.stop 0xD3, [0x10, 0xD3])] := by decide

theorem witness_DiEiWriteIMEOnly :
    (Instr.ei, [(0xFB : Byte)], true) ∈ [(Instr.di, [0xF3], false), (.ei, [0xFB], true)] := by decide


end Sys2Proof.Tests
end

section
/-! PROOFS. The address map and the MMU's reads and writes (20_memory.md R47 to R58): O12 and O13. -/

namespace Sys2Proof.Machine

/-! ## The partition of R47 -/

/-- The first address of a region, from the range column of R47. -/
def Region.first : Region → Nat
  | .rom => 0x0000
  | .vram => 0x8000
  | .externalRam => 0xA000
  | .workRam => 0xC000
  | .echo => 0xE000
  | .oam => 0xFE00
  | .unusable => 0xFEA0
  | .io => 0xFF00
  | .hram => 0xFF80
  | .ie => 0xFFFF

/-- The last address of a region, from the same column. -/
def Region.last : Region → Nat
  | .rom => 0x7FFF
  | .vram => 0x9FFF
  | .externalRam => 0xBFFF
  | .workRam => 0xDFFF
  | .echo => 0xFDFF
  | .oam => 0xFE9F
  | .unusable => 0xFEFF
  | .io => 0xFF7F
  | .hram => 0xFFFE
  | .ie => 0xFFFF

/-- The regions cover the address space. -/
theorem regionOf_bounds {a : Nat} (ha : a < 0x10000) : (regionOf a).first ≤ a ∧ a ≤ (regionOf a).last := by
  unfold regionOf
  repeat' split
  all_goals simp only [Region.first, Region.last]; omega

/-- The regions are disjoint: a range that holds the address is that of its region. -/
theorem regionOf_eq_of_bounds {a : Nat} {r : Region} (h : r.first ≤ a ∧ a ≤ r.last) : regionOf a = r := by
  cases r
  all_goals
    simp only [Region.first, Region.last] at h
    simp (disch := omega) only [regionOf, if_pos, if_neg]

theorem regionOf_eq_iff {a : Nat} (ha : a < 0x10000) (r : Region) : regionOf a = r ↔ r.first ≤ a ∧ a ≤ r.last :=
  ⟨fun h => h ▸ regionOf_bounds ha, regionOf_eq_of_bounds⟩

/-! ## The read and write columns of R47 -/

/-- The rows whose reads give 0xFF. -/
theorem Region.mem_readsFF (r : Region) : r ∈ [.echo, .unusable] ↔ r.readsFF = true := by cases r <;> decide

/-- The rows whose writes store, and the rows that discard them. -/
theorem Region.mem_stores (r : Region) :
    r ∈ [.vram, .externalRam, .workRam, .oam, .io, .hram, .ie] ↔ r.stores = true := by cases r <;> decide

theorem Region.mem_discards (r : Region) : r ∈ [.rom, .echo, .unusable] ↔ r.stores = false := by cases r <;> decide

/-- `mem` after the MMU's write (R58). -/
theorem Memory.get_write (m : Memory) (a : Word) (v : Byte) (x : Nat) :
    (m.write a v).get x = if x = a.toNat ∧ (regionOf a.toNat).stores = true then v else m.get x := by
  unfold Memory.write
  by_cases hs : (regionOf a.toNat).stores = true
  · simp [hs, Memory.get_put]
  · simp [hs]

/-! ## The bus, with the MMU -/

/-- The MMU answers by the region's read column. -/
theorem State.reply_mmu_eq_ite (s : State) (a : Word) (h : s.backend = .mmu) :
    s.reply a = if (regionOf a.toNat).readsFF then 0xFF else s.mem.get a.toNat := s.reply_mmu a h

theorem State.memWrite_mem_mmu (s : State) (a : Word) (v : Byte) (h : s.backend = .mmu) :
    (s.memWrite a v).mem = s.mem.write a v := by
  rw [State.memWrite_mem, h, Backend.store]

/-- What the MMU answers after a write. -/
theorem State.memWrite_reply_mmu (s : State) (a : Word) (v : Byte) (x : Word) (h : s.backend = .mmu) :
    (s.memWrite a v).reply x = if x = a ∧ (regionOf a.toNat).stores = true then v else s.reply x := by
  simp [h, State.memWrite_peek]

/-! ## The obligations -/

/-- Settles O12: a region is decoded from its range alone, and the columns are `Region.readsFF` and `Region.stores`. -/
theorem addressMapHasTenRegions : Obligations.AddressMapHasTenRegions := by
  unfold Obligations.AddressMapHasTenRegions
  intro a
  have row (r : Region) := regionOf_eq_iff a.isLt r
  refine ⟨(row .rom).trans ?_, row .vram, row .externalRam, row .workRam, row .echo, row .oam, row .unusable, row .io,
    row .hram, (row .ie).trans ?_, fun s h => ?_, fun s v h => ?_⟩
  · simp only [Region.first, Region.last]; omega
  · simp only [Region.first, Region.last]; omega
  · simp only [Region.mem_readsFF, s.reply_mmu_eq_ite a h]
  · simp only [Region.mem_discards, s.memWrite_mem_mmu a v h, Memory.get_write]
    cases (regionOf a.toNat).stores <;> simp

/-- Settles O13, from what the MMU answers after a write to a region that stores and to one that does not. -/
theorem writesStoreOrAreDiscarded : Obligations.WritesStoreOrAreDiscarded := by
  unfold Obligations.WritesStoreOrAreDiscarded
  intro s a v h
  have after (x : Word) := s.memWrite_reply_mmu a v x h
  refine ⟨fun hr => ?_, fun hr x => ?_, fun hr => ?_⟩
  · have hs := (Region.mem_stores _).1 hr
    exact ⟨by rw [after, if_pos ⟨rfl, hs⟩], fun x hx => by rw [after, if_neg (fun c => hx c.1)]⟩
  · have hs : (regionOf a.toNat).stores = false :=
      (Region.mem_discards _).1 ((by decide : [Region.rom, .unusable] ⊆ [.rom, .echo, .unusable]) hr)
    rw [after, if_neg (by simp [hs])]
  · rw [s.reply_mmu_eq_ite a h, hr]; rfl

end Sys2Proof.Machine
end

section
/-! PROOFS. The CB table and the two bytes that reach it (30_encoding.md R89, R92, R94): O4. -/

namespace Sys2Proof.Machine

/-! ## The two bytes -/

/-- 0xCB is two bytes long with the byte after it, and the table of that byte decodes the two. -/
theorem decode_cb (cb : Byte) (rest : List Byte) : decode (0xCB :: cb :: rest) = .ok (decodeCb cb, rest) := rfl

/-! ## The rows of R89 -/

/-- The two high bits of a byte, which choose the row, are its quarter of the table. -/
theorem field_six_two (v : Byte) : field v 6 2 = v.toNat / 0x40 := by
  have hv : v.toNat < 256 := v.isLt
  simp only [field, Nat.reducePow]
  omega

/-- The first quarter. -/
theorem decodeCb_shift {cb : Byte} (h : cb.toNat ≤ 0x3F) : ∃ t r, decodeCb cb = .ofShift t r := by
  have row : field cb 6 2 = 0 := by rw [field_six_two]; omega
  rw [decodeCb, row]
  exact ⟨_, _, rfl⟩

/-- The other three quarters, one form each. -/
theorem decodeCb_bit_res_set {cb : Byte} (h : 0x40 ≤ cb.toNat) :
    (∃ k r, decodeCb cb = .bit k r) ∨ (∃ k r, decodeCb cb = .res k r) ∨ ∃ k r, decodeCb cb = .set k r := by
  have row : field cb 6 2 ≠ 0 := by rw [field_six_two]; omega
  unfold decodeCb
  generalize field cb 6 2 = x at row
  match x with
  | 0 => exact absurd rfl row
  | 1 => exact .inl ⟨_, _, rfl⟩
  | 2 => exact .inr (.inl ⟨_, _, rfl⟩)
  | _ + 3 => exact .inr (.inr ⟨_, _, rfl⟩)

/-! ## No entry is unknown -/

theorem Instr.ofShift_ne_unknown (t : ShiftOp) (r : R8) (op : Byte) : Instr.ofShift t r ≠ .unknown op := by
  cases t <;> exact Instr.noConfusion

theorem decodeCb_ne_unknown (cb op : Byte) : decodeCb cb ≠ .unknown op := by
  rcases Nat.lt_or_ge cb.toNat 0x40 with low | high
  · obtain ⟨t, r, entry⟩ := decodeCb_shift (Nat.le_of_lt_succ low)
    exact entry ▸ Instr.ofShift_ne_unknown t r op
  · obtain ⟨_, _, entry⟩ | ⟨_, _, entry⟩ | ⟨_, _, entry⟩ := decodeCb_bit_res_set high <;> simp [entry]

/-! ## The obligation -/

/-- Settles O4: the instruction is the CB table's entry, whose row the quarter of the byte chooses. -/
theorem everyCbByteIsDefined : Obligations.EveryCbByteIsDefined := by
  unfold Obligations.EveryCbByteIsDefined
  intro cb rest
  exact ⟨decodeCb cb, decode_cb cb rest, decodeCb_ne_unknown cb, decodeCb_shift, decodeCb_bit_res_set⟩

end Sys2Proof.Machine
end

section
/-! PROOFS. The CB sub-dispatch: what every entry of the CB table returns (40_dispatch.md R103, R106): O47. -/

namespace Sys2Proof.Machine

/-! ## The cost of the operand that a CB byte names -/

/-- Index 6, and no other, names the byte at HL (10_state.md R31). -/
theorem R8.ofIndex_eq_atHL_iff (n : Nat) : R8.ofIndex n = .atHL ↔ n = 6 := by
  match n with
  | 0 | 1 | 2 | 3 | 4 | 5 | 6 => decide
  | n + 7 => exact iff_of_false R8.noConfusion (by omega)

theorem costR8_ofIndex (n reg atHL : Nat) : costR8 (.ofIndex n) reg atHL = if n = 6 then atHL else reg := by
  simp only [costR8, R8.ofIndex_eq_atHL_iff]

/-! ## What each form of the table returns -/

theorem cbShift_completes (k : ShiftOp) (r : R8) (s : State) :
    ∃ t, cbShift k r s = .next t ∧ t.cycles = costR8 r 8 16 + s.extra ∧ t.pc = s.pc :=
  ⟨_, rfl, by simp [Nat.add_comm], by simp⟩

theorem cbBit_completes (k : Fin 8) (r : R8) (s : State) :
    ∃ t, cbBit k r s = .next t ∧ t.cycles = costR8 r 8 12 + s.extra ∧ t.pc = s.pc :=
  ⟨_, rfl, by simp [Nat.add_comm], by simp⟩

theorem cbRes_completes (k : Fin 8) (r : R8) (s : State) :
    ∃ t, cbRes k r s = .next t ∧ t.cycles = costR8 r 8 16 + s.extra ∧ t.pc = s.pc :=
  ⟨_, rfl, by simp [Nat.add_comm], by simp⟩

theorem cbSet_completes (k : Fin 8) (r : R8) (s : State) :
    ∃ t, cbSet k r s = .next t ∧ t.cycles = costR8 r 8 16 + s.extra ∧ t.pc = s.pc :=
  ⟨_, rfl, by simp [Nat.add_comm], by simp⟩

/-! ## The sub-dispatch -/

/-- The count of the map is the cost of the operand: 16 at HL, but 12 in the BIT quarter (R106). -/
theorem cbCycles_eq_costR8 (cb : Byte) :
    cbCycles cb = costR8 (.ofIndex (field cb 0 3)) 8 (if field cb 6 2 = 1 then 12 else 16) :=
  (costR8_ofIndex _ _ _).symm

theorem cbDispatch_completes (cb : Byte) (s : State) :
    ∃ t, cbDispatch cb s = .next t ∧ t.cycles = cbCycles cb + s.extra ∧ t.pc = s.pc := by
  rw [cbCycles_eq_costR8]
  unfold cbDispatch
  generalize field cb 6 2 = row
  match row with
  | 0 => exact cbShift_completes _ _ s
  | 1 => exact cbBit_completes _ _ s
  | 2 => exact cbRes_completes _ _ s
  | _ + 3 => simpa using cbSet_completes _ _ s

/-! ## The obligation -/

/-- Settles O47: the prefix's meaning is the sub-dispatch, which runs the table's entry and returns its count. -/
theorem cbPrefixRunsCbTable : Obligations.CbPrefixRunsCbTable := by
  unfold Obligations.CbPrefixRunsCbTable
  intro cb s
  exact ⟨rfl, cbDispatch_eq cb s, cbDispatch_completes cb s⟩

end Sys2Proof.Machine
end

section
/-! PROOFS. The 8-bit loads and stores (41_loads.md R115 to R120, R125 to R130): O21 to O24. -/

namespace Sys2Proof.Machine

/-! ## What a retired meaning returns, and what it holds -/

/-- The count and the accesses, from what the state before `retire` made of the accumulator and the bus. -/
theorem returns_retire {s t : State} {accesses : List BusAccess} (k : Nat) (hextra : t.extra = s.extra)
    (hbus : t.bus = s.bus ++ accesses) (hbackend : t.backend = s.backend.afterAll accesses) :
    Returns s (t.retire k) k accesses :=
  ⟨by rw [State.retire_cycles, hextra], rfl, hbus, hbackend⟩

/-- A meaning without a data access. -/
theorem returns_retire_nil {s t : State} (k : Nat) (hextra : t.extra = s.extra) (hbus : t.bus = s.bus)
    (hbackend : t.backend = s.backend) : Returns s (t.retire k) k [] :=
  returns_retire k hextra (hbus.trans (List.append_nil _).symm) hbackend

theorem Written.retire {s t : State} {dst : R8} {v : Byte} (h : Written s t dst v) (k : Nat) :
    Written s (t.retire k) dst v :=
  h.congr rfl Iff.rfl rfl (t.retire_r8 k dst) rfl

/-- The MMU's byte at the address of a write. -/
theorem State.memWrite_peek_self (s : State) (a : Word) (v : Byte) : (s.memWrite a v).peek a = s.afterWrite a v := by
  simp only [State.memWrite_peek, State.afterWrite, true_and]

/-! ## The bytes of LD r,r' and LD r,n -/

/-- The slot of (HL),(HL) has this byte too: it is HALT's (30_encoding.md R99). -/
theorem encode_ofLdRR (dst src : R8) :
    encode (.ofLdRR dst src) = [BitVec.ofNat 8 (0x40 + 8 * dst.index + src.index)] := by
  cases dst <;> cases src <;> rfl

theorem encode_ofLdRN (dst : R8) (n : Byte) :
    encode (.ofLdRN dst n) = [BitVec.ofNat 8 (0x06 + 8 * dst.index), n] := by
  cases dst <;> rfl

/-! ## The shared operations -/

theorem copyR8_copies (dst src : R8) (s : State) :
    ∃ t, copyR8 dst src s = .next t ∧ Written s t dst (s.r8 src) ∧ Frame s t dst.regs (s.addrs dst) ∧
      Returns s t (if dst = .atHL ∨ src = .atHL then 8 else 4) (s.reads src ++ s.writes dst (s.r8 src)) := by
  obtain ⟨written, frame⟩ := s.readWriteR8 src dst (s.readR8 src).1
  rw [s.readR8_fst src] at written frame
  exact ⟨_, rfl, by simpa using written.retire _, by simpa using frame.retire _,
    returns_retire _ (by simp) (by simp) (by simp)⟩

theorem loadImm_loads (dst : R8) (n : Byte) (s : State) :
    ∃ t, loadImm dst n s = .next t ∧ Written s t dst n ∧ Frame s t dst.regs (s.addrs dst) ∧
      Returns s t (costR8 dst 8 12) (s.writes dst n) :=
  ⟨_, rfl, (s.writeR8_written dst n).retire _, (s.writeR8_frame dst n).retire _,
    returns_retire _ (s.writeR8_extra dst n) (s.writeR8_bus dst n) (s.writeR8_backend dst n)⟩

theorem storeA_stores (addr : Word) (k : Nat) (s : State) :
    ∃ t, storeA addr k s = .next t ∧ t.peek addr = s.afterWrite addr s.a ∧ Frame s t [] [addr] ∧
      Returns s t k [.write addr s.a] :=
  ⟨_, rfl, s.memWrite_peek_self addr s.a, (s.memWrite_frame addr s.a).retire k, returns_retire k rfl rfl rfl⟩

theorem loadA_loads (addr : Word) (k : Nat) (s : State) :
    ∃ t, loadA addr k s = .next t ∧ t.a = s.reply addr ∧ Frame s t [.a] [] ∧
      Returns s t k [.read addr (s.reply addr)] :=
  ⟨_, rfl, rfl, ((s.memRead_frame addr).trans ((s.memRead addr).2.setA_frame _)).retire k,
    returns_retire k rfl rfl rfl⟩

/-! ## The obligations -/

/-- Settles O21: off the slot of HALT, LD r,r' is `copyR8`, a read of the source and then a write of the destination. -/
theorem ldRegRegCopies : Obligations.LdRegRegCopies := by
  unfold Obligations.LdRegRegCopies
  intro dst src s slot
  rw [exec_ofLdRR dst src s slot]
  exact ⟨encode_ofLdRR dst src, copyR8_copies dst src s⟩

/-- Settles O22: LD r,n is `loadImm`, a write of the destination. -/
theorem ldRegImmediateLoads : Obligations.LdRegImmediateLoads := by
  unfold Obligations.LdRegImmediateLoads
  intro dst n s
  rw [exec_ofLdRN]
  exact ⟨encode_ofLdRN dst n, loadImm_loads dst n s⟩

/-- Settles O23: each form is `storeA` at its address. -/
theorem storesOfAWriteOneByte : Obligations.StoresOfAWriteOneByte := by
  unfold Obligations.StoresOfAWriteOneByte
  intro s n nn i bytes addr count form
  simp only [List.mem_cons, List.not_mem_nil, or_false, Prod.mk.injEq] at form
  rcases form with form | form | form | form | form
  all_goals
    obtain ⟨rfl, rfl, rfl, rfl⟩ := form
    exact ⟨rfl, storeA_stores _ _ s⟩

/-- Settles O24: each form is `loadA` from its address. -/
theorem loadsOfAReadOneByte : Obligations.LoadsOfAReadOneByte := by
  unfold Obligations.LoadsOfAReadOneByte
  intro s n nn i bytes addr count form
  simp only [List.mem_cons, List.not_mem_nil, or_false, Prod.mk.injEq] at form
  rcases form with form | form | form | form | form
  all_goals
    obtain ⟨rfl, rfl, rfl, rfl⟩ := form
    exact ⟨rfl, loadA_loads _ _ s⟩

end Sys2Proof.Machine
end

section
/-! PROOFS. The 16-bit loads and the stack transfers (41_loads.md R131, R133 to R137): O27 and O29 to O31. -/

namespace Sys2Proof.Machine

/-! ## The bytes of the forms -/

theorem encode_ofLdR16 (p : R16) (nn : Word) :
    encode (.ofLdR16 p nn) = [BitVec.ofNat 8 (0x01 + 16 * p.index), lo8 nn, hi8 nn] := by
  cases p <;> rfl

theorem encode_ofPush (q : R16s) : encode (.ofPush q) = [BitVec.ofNat 8 (0xC5 + 16 * q.index)] := by
  cases q <;> rfl

theorem encode_ofPop (q : R16s) : encode (.ofPop q) = [BitVec.ofNat 8 (0xC1 + 16 * q.index)] := by
  cases q <;> rfl

/-! ## The pair AF -/

/-- F is the low byte of AF (10_state.md R30). -/
theorem State.lo8_af (s : State) : lo8 s.af = s.f := lo8_join s.a s.f

/-! ## The shared operations -/

theorem loadR16_loads (p : R16) (nn : Word) (s : State) :
    ∃ t, loadR16 p nn s = .next t ∧ t.readR16 p = nn ∧ Frame s t p.regs [] ∧ Returns s t 12 [] :=
  ⟨_, rfl, by simp, (s.writeR16_frame p nn).retire 12,
    returns_retire_nil 12 (s.writeR16_extra p nn) (s.writeR16_bus p nn) (s.writeR16_backend p nn)⟩

theorem copyHLToSP_copies (s : State) :
    ∃ t, copyHLToSP s = .next t ∧ t.sp = s.hl ∧ Frame s t [.sp] [] ∧ Returns s t 8 [] :=
  ⟨_, rfl, rfl, (s.setSP_frame s.hl).retire 8, returns_retire_nil 8 rfl rfl rfl⟩

theorem loadHLOffset_loads (n : Byte) (s : State) :
    ∃ t, loadHLOffset n s = .next t ∧ t.hl = s.sp + sext16 n ∧
      FlagsAre t false false (decide ((s.sp.toNat % 16) + (n.toNat % 16) > 0x0F))
        (decide ((s.sp.toNat % 256) + n.toNat > 0xFF)) ∧
      Frame s t [.h, .l, .f] [] ∧ Returns s t 12 [] :=
  ⟨_, rfl, s.setHL_hl _, setFlags_flagsAre (s.setHL (addOffset s.sp n).1) _ _ _ _,
    ((s.setHL_frame _).trans ((s.setHL _).setFlags_frame _ _ _ _)).retire 12, returns_retire_nil 12 rfl rfl rfl⟩

theorem pushR16_stores (q : R16s) (s : State) :
    ∃ t, pushR16 q s = .next t ∧ t.sp = s.sp - 2 ∧
      t.peek (s.sp - 1) = s.afterWrite (s.sp - 1) (hi8 (s.readR16s q)) ∧
      t.peek (s.sp - 2) = s.afterWrite (s.sp - 2) (lo8 (s.readR16s q)) ∧
      Frame s t [.sp] [s.sp - 1, s.sp - 2] ∧
      Returns s t 16 [.write (s.sp - 1) (hi8 (s.readR16s q)), .write (s.sp - 2) (lo8 (s.readR16s q))] := by
  obtain ⟨high, low⟩ := s.push16_bytes (s.readR16s q)
  exact ⟨_, rfl, s.push16_sp _, high, low, (s.push16_frame _).retire 16,
    returns_retire 16 (s.push16_extra _) (s.push16_bus _) (s.push16_backend _)⟩

theorem popR16_loads (q : R16s) (s : State) :
    ∃ t, popR16 q s = .next t ∧ t.sp = s.sp + 2 ∧
      (q ≠ .af → t.readR16s q = join (s.replyAfter s.sp (s.sp + 1)) (s.reply s.sp)) ∧
      (q = .af → t.a = s.replyAfter s.sp (s.sp + 1) ∧ t.f = s.reply s.sp &&& 0xF0) ∧
      Frame s t (.sp :: q.regs) [] ∧
      Returns s t 12 [.read s.sp (s.reply s.sp), .read (s.sp + 1) (s.replyAfter s.sp (s.sp + 1))] := by
  refine ⟨_, rfl, by simp, fun pair => ?_, ?_, (s.pop16_frame.trans (s.pop16.2.writeR16s_frame q _)).retire 12,
    returns_retire 12 (by simp) (by simp) (by simp)⟩
  · rw [State.retire_readR16s, State.readR16s_writeR16s _ q _ pair, State.pop16_fst]
  · rintro rfl
    exact ⟨hi8_join _ _, congrArg (· &&& 0xF0) (lo8_join _ _)⟩

/-! ## The obligations -/

/-- Settles O27: LD r16,nn is `loadR16`, a write of the pair. -/
theorem ldPairImmediateLoads : Obligations.LdPairImmediateLoads := by
  unfold Obligations.LdPairImmediateLoads
  intro p nn s
  rw [exec_ofLdR16]
  exact ⟨encode_ofLdR16 p nn, loadR16_loads p nn s⟩

/-- Settles O29: the sum with the sign-extended byte is the signed sum modulo 65536. -/
theorem ldSPHLAndLdHLSPOffset : Obligations.LdSPHLAndLdHLSPOffset := by
  unfold Obligations.LdSPHLAndLdHLSPOffset
  intro n s
  obtain ⟨t, next, sum, rest⟩ := loadHLOffset_loads n s
  exact ⟨⟨rfl, copyHLToSP_copies s⟩, rfl, t, next, by rw [sum, add_sext16_toNat], rest⟩

/-- Settles O30: PUSH is `pushR16`, and the low byte of AF is F. -/
theorem pushStoresPair : Obligations.PushStoresPair := by
  unfold Obligations.PushStoresPair
  intro q s
  rw [exec_ofPush]
  obtain ⟨t, next, sp, high, low, frame, returns⟩ := pushR16_stores q s
  refine ⟨encode_ofPush q, t, next, sp, high, low, frame, returns, ?_⟩
  rintro rfl masked
  exact ⟨s.lo8_af, s.lo8_af.symm ▸ masked⟩

/-- Settles O31: POP is `popR16`, whose write of AF masks F. -/
theorem popLoadsPair : Obligations.PopLoadsPair := by
  unfold Obligations.PopLoadsPair
  intro q s
  rw [exec_ofPop]
  exact ⟨encode_ofPop q, popR16_loads q s⟩

end Sys2Proof.Machine
end

section
/-! PROOFS. Arithmetic and logic on A, HL and SP (42_alu.md R140 to R156, R161, R162, R164 to R166): O32 to O35, O39, O40
and O42. -/

namespace Sys2Proof.Machine

/-! ## The bytes of the forms -/

theorem encode_ofAluR (k : AluOp) (r : R8) :
    encode (.ofAluR k r) = [BitVec.ofNat 8 (0x80 + 8 * k.index + r.index)] := by
  cases k <;> cases r <;> rfl

theorem encode_ofAluN (k : AluOp) (n : Byte) : encode (.ofAluN k n) = [BitVec.ofNat 8 (0xC6 + 8 * k.index), n] := by
  cases k <;> rfl

theorem encode_ofAddHL (p : R16) : encode (.ofAddHL p) = [BitVec.ofNat 8 (0x09 + 16 * p.index)] := by
  cases p <;> rfl

/-! ## The rows of the ALU table -/

/-- The two additions, each with its carry in. -/
theorem alu_eq_add8 {k : AluOp} {cin : Nat} {cf : Bool}
    (row : (k, cin) ∈ [(AluOp.add, 0), (.adc, if cf then 1 else 0)]) (a b : Byte) : alu k a b cf = add8 a b cin := by
  simp only [List.mem_cons, List.not_mem_nil, or_false, Prod.mk.injEq] at row
  obtain ⟨rfl, rfl⟩ | ⟨rfl, rfl⟩ := row
  · rfl
  · cases cf <;> rfl

/-- The two subtractions that write A, each with its borrow in. -/
theorem alu_eq_sub8 {k : AluOp} {cin : Nat} {cf : Bool}
    (row : (k, cin) ∈ [(AluOp.sub, 0), (.sbc, if cf then 1 else 0)]) (a b : Byte) : alu k a b cf = sub8 a b cin := by
  simp only [List.mem_cons, List.not_mem_nil, or_false, Prod.mk.injEq] at row
  obtain ⟨rfl, rfl⟩ | ⟨rfl, rfl⟩ := row
  · rfl
  · cases cf <;> rfl

/-- The three bitwise rows. -/
theorem alu_eq_logic8 {k : AluOp} {result : Byte} {h : Bool} {a b : Byte}
    (row : (k, result, h) ∈ [(AluOp.and, a &&& b, true), (.xor, a ^^^ b, false), (.or, a ||| b, false)]) (cf : Bool) :
    alu k a b cf = logic8 result h := by
  simp only [List.mem_cons, List.not_mem_nil, or_false, Prod.mk.injEq] at row
  obtain ⟨rfl, rfl, rfl⟩ | ⟨rfl, rfl, rfl⟩ | ⟨rfl, rfl, rfl⟩ := row <;> rfl

/-! ## Sums and differences -/

theorem add8_toNat (a b : Byte) (cin : Nat) : (add8 a b cin).1.toNat = (a.toNat + b.toNat + cin) % 256 :=
  BitVec.toNat_ofNat _ _

theorem add16_toNat (x y : Word) : (add16 x y).1.toNat = (x.toNat + y.toNat) % 65536 := BitVec.toNat_ofNat _ _

theorem sub8_toNat (a b : Byte) (cin : Nat) :
    ((sub8 a b cin).1.toNat : Int) = ((a.toNat : Int) - b.toNat - cin) % 256 := by
  simp only [sub8, BitVec.toNat_ofInt]
  omega

/-- A negative difference is a borrow. -/
theorem decide_sub_neg (x y cin : Nat) : decide ((x : Int) - y - cin < 0) = decide (x < y + cin) :=
  decide_eq_decide.2 (by omega)

theorem sub8_flags (a b : Byte) (cin : Nat) :
    (sub8 a b cin).2 = ⟨decide ((sub8 a b cin).1 = 0), true, decide (a.toNat % 16 < b.toNat % 16 + cin),
      decide (a.toNat < b.toNat + cin)⟩ := by
  rw [← decide_sub_neg, ← decide_sub_neg]
  rfl

/-- The difference of two bytes is zero for equal bytes alone. -/
theorem sub8_eq_zero_iff (a b : Byte) : (sub8 a b 0).1 = 0 ↔ a = b := by
  have difference := sub8_toNat a b 0
  have ha := a.isLt
  have hb := b.isLt
  rw [← BitVec.toNat_inj, ← BitVec.toNat_inj, show (0 : Byte).toNat = 0 from rfl]
  omega

/-! ## The two forms of an ALU operation -/

/-- A register that holds what it held can leave the list of those that may change. -/
theorem Frame.of_cons {s t : State} {r : Reg} {regs : List Reg} {addrs : List Word} (h : Frame s t (r :: regs) addrs)
    (kept : t.reg r = s.reg r) : Frame s t regs addrs := by
  refine ⟨fun x outside => ?_, h.2⟩
  by_cases same : x = r
  · exact same ▸ kept
  · exact h.1 x (List.not_mem_cons_of_ne_of_not_mem same outside)

theorem State.applyAlu_flagsAre (s : State) (k : AluOp) (b : Byte) :
    FlagsAre (s.applyAlu k b) (alu k s.a b s.cf).2.z (alu k s.a b s.cf).2.n (alu k s.a b s.cf).2.h
      (alu k s.a b s.cf).2.c :=
  setFlags_flagsAre _ _ _ _ _

/-- Reading the operand changes neither A nor C, so the row of the table is applied to those of the first state. -/
theorem aluForms_compute {s : State} {k : AluOp} {r : R8} {n : Byte} {i : Instr} {b : Byte} {bytes : List Byte}
    {count : Nat} {accesses : List BusAccess} (form : (i, b, bytes, count, accesses) ∈ s.aluForms k r n) :
    encode i = bytes ∧
    ∃ t, exec i s = .next t ∧ t.a = (alu k s.a b s.cf).1 ∧
      FlagsAre t (alu k s.a b s.cf).2.z (alu k s.a b s.cf).2.n (alu k s.a b s.cf).2.h (alu k s.a b s.cf).2.c ∧
      Frame s t [.a, .f] [] ∧ Returns s t count accesses := by
  simp only [State.aluForms, List.mem_cons, List.not_mem_nil, or_false, Prod.mk.injEq] at form
  obtain ⟨rfl, rfl, rfl, rfl, rfl⟩ | ⟨rfl, rfl, rfl, rfl, rfl⟩ := form
  · have flags := (s.readR8 r).2.applyAlu_flagsAre k (s.readR8 r).1
    simp only [State.readR8_fst, State.readR8_a, State.readR8_cf] at flags
    rw [exec_ofAluR, aluR8, State.readR8_fst]
    exact ⟨encode_ofAluR k r, _, rfl, by simp, flags,
      ((s.readR8_frame r).trans ((s.readR8 r).2.applyAlu_frame k (s.r8 r))).retire _,
      returns_retire _ (s.readR8_extra r) (s.readR8_bus r) (s.readR8_backend r)⟩
  · rw [exec_ofAluN]
    exact ⟨encode_ofAluN k b, _, rfl, rfl, s.applyAlu_flagsAre k b, (s.applyAlu_frame k b).retire 8,
      returns_retire_nil 8 rfl rfl rfl⟩

/-! ## The other shared operations -/

theorem addToHL_computes (p : R16) (s : State) :
    ∃ t, addToHL p s = .next t ∧ t.hl = (add16 s.hl (s.readR16 p)).1 ∧
      FlagsAre t s.zf false (decide (s.hl.toNat % 4096 + (s.readR16 p).toNat % 4096 > 0x0FFF))
        (decide (s.hl.toNat + (s.readR16 p).toNat > 0xFFFF)) ∧
      Frame s t [.h, .l, .f] [] ∧ Returns s t 8 [] :=
  ⟨_, rfl, s.setHL_hl _, setFlags_flagsAre (s.setHL (add16 s.hl (s.readR16 p)).1) _ _ _ _,
    ((s.setHL_frame _).trans ((s.setHL _).setFlags_frame _ _ _ _)).retire 8, returns_retire_nil 8 rfl rfl rfl⟩

theorem addToSP_computes (n : Byte) (s : State) :
    ∃ t, addToSP n s = .next t ∧ t.sp = s.sp + sext16 n ∧
      FlagsAre t false false (decide ((s.sp.toNat % 16) + (n.toNat % 16) > 0x0F))
        (decide ((s.sp.toNat % 256) + n.toNat > 0xFF)) ∧
      Frame s t [.sp, .f] [] ∧ Returns s t 16 [] :=
  ⟨_, rfl, rfl, setFlags_flagsAre (s.setSP (addOffset s.sp n).1) _ _ _ _,
    ((s.setSP_frame _).trans ((s.setSP _).setFlags_frame _ _ _ _)).retire 16, returns_retire_nil 16 rfl rfl rfl⟩

theorem complementA_complements (s : State) :
    ∃ t, complementA s = .next t ∧ t.a = ~~~s.a ∧ FlagsAre t s.zf true true s.cf ∧ Frame s t [.a, .f] [] ∧
      Returns s t 4 [] :=
  ⟨_, rfl, rfl, setFlags_flagsAre (s.setA (~~~s.a)) _ _ _ _,
    ((s.setA_frame _).trans ((s.setA _).setFlags_frame _ _ _ _)).retire 4, returns_retire_nil 4 rfl rfl rfl⟩

theorem putCarry_puts (c : Bool) (s : State) :
    ∃ t, putCarry c s = .next t ∧ t.a = s.a ∧ FlagsAre t s.zf false false c ∧ Frame s t [.f] [] ∧ Returns s t 4 [] :=
  ⟨_, rfl, rfl, setFlags_flagsAre s _ _ _ _, (s.setFlags_frame _ _ _ _).retire 4, returns_retire_nil 4 rfl rfl rfl⟩

/-! ## The obligations -/

/-- Settles O32: both rows are `add8`, whose sum is narrowed to a byte. -/
theorem addAdcCompute : Obligations.AddAdcCompute := by
  unfold Obligations.AddAdcCompute
  intro s r n i b bytes count accesses k cin row form
  obtain ⟨encoding, t, next, sum, flags, rest⟩ := aluForms_compute form
  rw [alu_eq_add8 row] at sum flags
  exact ⟨encoding, t, next, by rw [sum, add8_toNat], sum ▸ flags, rest⟩

/-- Settles O33: both rows are `sub8`, whose difference is taken in the integers. -/
theorem subSbcCompute : Obligations.SubSbcCompute := by
  unfold Obligations.SubSbcCompute
  intro s r n i b bytes count accesses k cin row form
  obtain ⟨encoding, t, next, difference, flags, rest⟩ := aluForms_compute form
  rw [alu_eq_sub8 row] at difference flags
  rw [sub8_flags, ← difference] at flags
  exact ⟨encoding, t, next, by rw [difference, sub8_toNat], flags, rest⟩

/-- Settles O34: the three rows are `logic8` of the bitwise result. -/
theorem logicComputes : Obligations.LogicComputes := by
  unfold Obligations.LogicComputes
  intro s r n i b bytes count accesses k result h row form
  obtain ⟨encoding, t, next, a, flags, rest⟩ := aluForms_compute form
  rw [alu_eq_logic8 row] at a flags
  exact ⟨encoding, t, next, a, flags, rest⟩

/-- Settles O35: the row of CP gives A back, with the flags of `sub8`, so A is in the frame as well. -/
theorem compareChangesFlagsOnly : Obligations.CompareChangesFlagsOnly := by
  unfold Obligations.CompareChangesFlagsOnly
  intro s r n i b bytes count accesses form
  obtain ⟨encoding, t, next, a, flags, frame, returns⟩ := aluForms_compute form
  simp only [alu, sub8_flags, sub8_eq_zero_iff, Nat.add_zero] at a flags
  exact ⟨encoding, t, next, flags, frame.of_cons (congrArg zext16 a), returns⟩

/-- Settles O39: ADD HL,rr is `addToHL`, whose sum is narrowed to 16 bits. -/
theorem addHLPreservesZ : Obligations.AddHLPreservesZ := by
  unfold Obligations.AddHLPreservesZ
  intro p s
  rw [exec_ofAddHL]
  obtain ⟨t, next, sum, rest⟩ := addToHL_computes p s
  exact ⟨encode_ofAddHL p, t, next, by rw [sum, add16_toNat], rest⟩

/-- Settles O40: the sum with the sign-extended byte is the signed sum modulo 65536. -/
theorem addSPOffset : Obligations.AddSPOffset := by
  unfold Obligations.AddSPOffset
  intro n s
  obtain ⟨t, next, sum, rest⟩ := addToSP_computes n s
  exact ⟨rfl, t, next, by rw [sum, add_sext16_toNat], rest⟩

/-- Settles O42: CPL is `complementA`; SCF and CCF are `putCarry`, which keeps A. -/
theorem cplScfCcfPreserveZ : Obligations.CplScfCcfPreserveZ := by
  unfold Obligations.CplScfCcfPreserveZ
  intro s i bytes a' n h c form
  simp only [List.mem_cons, List.not_mem_nil, or_false, Prod.mk.injEq] at form
  obtain ⟨rfl, rfl, rfl, rfl, rfl, rfl⟩ | ⟨rfl, rfl, rfl, rfl, rfl, rfl⟩ | ⟨rfl, rfl, rfl, rfl, rfl, rfl⟩ := form
  · obtain ⟨t, next, a, flags, rest⟩ := complementA_complements s
    exact ⟨rfl, t, next, by rw [a, BitVec.toNat_not], by simpa using flags, rest⟩
  · obtain ⟨t, next, a, flags, frame, returns⟩ := putCarry_puts true s
    exact ⟨rfl, t, next, congrArg BitVec.toNat a, flags, frame.mono (by decide) (by decide), returns⟩
  · obtain ⟨t, next, a, flags, frame, returns⟩ := putCarry_puts (!s.cf) s
    exact ⟨rfl, t, next, congrArg BitVec.toNat a, by simpa using flags, frame.mono (by decide) (by decide), returns⟩

end Sys2Proof.Machine
end

section
/-! PROOFS. BIT, the quarter of the CB bank that tests one bit (43_rotate_shift_bit.md R186): O45. -/

namespace Sys2Proof.Machine

/-! ## The byte of a form of the CB bank -/

theorem cbByte_ofNat (base : Nat) (k : Fin 8) (r : R8) :
    cbByte (BitVec.ofNat 8 base) k r = BitVec.ofNat 8 (base + 8 * k.val + r.index) := by
  rw [cbByte, ← BitVec.ofNat_add, Nat.add_assoc]

theorem encode_bit (k : Fin 8) (r : R8) :
    encode (.bit k r) = [0xCB, BitVec.ofNat 8 (0x40 + 8 * k.val + r.index)] :=
  congrArg (fun cb => [0xCB, cb]) (cbByte_ofNat 0x40 k r)

/-! ## The shared operation -/

/-- The 0xCB entry's base is 0 and the CB entry adds its own to the accumulator: the count is that of one base (R103). -/
theorem State.addExtra_retire_zero (s : State) (k : Nat) : (s.addExtra k).retire 0 = s.retire k := by
  rw [State.retire, State.addExtra_extra, Nat.zero_add, Nat.add_comm]
  rfl

/-- The frame is that of a read, which changes nothing, and of the one write of F. -/
theorem cbBit_tests (k : Fin 8) (r : R8) (s : State) :
    ∃ t, cbBit k r s = .next t ∧ FlagsAre t (!(s.r8 r).getLsbD k.val) false true s.cf ∧ Frame s t [.f] [] ∧
      Returns s t (costR8 r 8 12) (s.reads r) := by
  have frame := (s.readR8_frame r).trans ((s.readR8 r).2.setFlags_frame (!(s.r8 r).getLsbD k.val) false true s.cf)
  rw [cbBit, State.readR8_fst, State.addExtra_retire_zero]
  exact ⟨_, rfl, setFlags_flagsAre (s.readR8 r).2 _ _ _ _, frame.retire _,
    returns_retire _ (s.readR8_extra r) (s.readR8_bus r) (s.readR8_backend r)⟩

/-! ## The obligation -/

/-- Settles O45: BIT is `cbBit`, a read of the operand and then a write of the flags. -/
theorem bitTestsOneBit : Obligations.BitTestsOneBit := by
  unfold Obligations.BitTestsOneBit
  intro s k r
  exact ⟨encode_bit k r, cbBit_tests k r s⟩

end Sys2Proof.Machine
end

section
/-! PROOFS. Jumps, calls and returns (44_control.md R190 to R192, R195 to R197, R199): O48, O49, O51 to O53 and O55. -/

namespace Sys2Proof.Machine

/-! ## The bytes of the conditional forms -/

theorem encode_ofJpCC (cc : Cond) (nn : Word) :
    encode (.ofJpCC cc nn) = [BitVec.ofNat 8 (0xC2 + 8 * cc.index), lo8 nn, hi8 nn] := by
  cases cc <;> rfl

theorem encode_ofCallCC (cc : Cond) (nn : Word) :
    encode (.ofCallCC cc nn) = [BitVec.ofNat 8 (0xC4 + 8 * cc.index), lo8 nn, hi8 nn] := by
  cases cc <;> rfl

theorem encode_ofRetCC (cc : Cond) : encode (.ofRetCC cc) = [BitVec.ofNat 8 (0xC0 + 8 * cc.index)] := by
  cases cc <;> rfl

/-! ## Taken and not taken -/

/-- The table of conditions (30_encoding.md R81), as the obligations write it. -/
theorem State.cond_eq_of_row {s : State} {cc : Cond} {holds : Bool}
    (row : (cc, holds) ∈ [(Cond.nz, !s.zf), (.z, s.zf), (.nc, !s.cf), (.c, s.cf)]) : s.cond cc = holds := by
  simp only [List.mem_cons, List.not_mem_nil, or_false, Prod.mk.injEq] at row
  obtain ⟨rfl, rfl⟩ | ⟨rfl, rfl⟩ | ⟨rfl, rfl⟩ | ⟨rfl, rfl⟩ := row <;> rfl

/-- What a taken branch adds to the accumulator is added to its base count (40_dispatch.md R107). -/
theorem State.addExtra_retire (s : State) (k base : Nat) : (s.addExtra k).retire base = s.retire (base + k) := by
  rw [State.retire, State.addExtra_extra, Nat.add_comm s.extra k, ← Nat.add_assoc]
  rfl

/-- The form of every conditional branch: taken, it retires with both counts in one. -/
theorem State.branch_eq (c : Bool) (s taken : State) (k base : Nat) :
    (.next ((if c then taken.addExtra k else s).retire base) : Result) =
      if c then .next (taken.retire (base + k)) else .next (s.retire base) := by
  cases c with
  | true => exact congrArg Host.Outcome.next (taken.addExtra_retire k base)
  | false => rfl

theorem jumpIf_eq (cc : Cond) (nn : Word) (s : State) :
    jumpIf cc nn s = if s.cond cc then jump nn 16 s else .next (s.retire 12) :=
  State.branch_eq (s.cond cc) s (s.setPC nn) 4 12

theorem callIf_eq (cc : Cond) (nn : Word) (s : State) :
    callIf cc nn s = if s.cond cc then call nn 24 s else .next (s.retire 12) :=
  State.branch_eq (s.cond cc) s (s.callTo nn) 12 12

theorem returnIf_eq (cc : Cond) (s : State) :
    returnIf cc s = if s.cond cc then .next (s.popPC.retire 20) else .next (s.retire 8) :=
  State.branch_eq (s.cond cc) s s.popPC 12 8

/-- A branch not taken: the count of its base, and nothing else. -/
theorem State.retire_only (s : State) (k : Nat) : Frame s (s.retire k) [] [] ∧ Returns s (s.retire k) k [] :=
  ⟨s.retire_frame k, returns_retire_nil k rfl rfl rfl⟩

/-! ## The shared operations -/

theorem jump_jumps (target : Word) (k : Nat) (s : State) :
    ∃ t, jump target k s = .next t ∧ t.pc = target ∧ Frame s t [.pc] [] ∧ Returns s t k [] :=
  ⟨_, rfl, rfl, (s.setPC_frame target).retire k, returns_retire_nil k rfl rfl rfl⟩

/-- The two bytes of the return address are those of the push: the jump writes no byte. -/
theorem call_calls (target : Word) (k : Nat) (s : State) :
    ∃ t, call target k s = .next t ∧ t.pc = target ∧ t.sp = s.sp - 2 ∧
      t.peek (s.sp - 1) = s.afterWrite (s.sp - 1) (hi8 s.pc) ∧
      t.peek (s.sp - 2) = s.afterWrite (s.sp - 2) (lo8 s.pc) ∧
      Frame s t [.pc, .sp] [s.sp - 1, s.sp - 2] ∧
      Returns s t k [.write (s.sp - 1) (hi8 s.pc), .write (s.sp - 2) (lo8 s.pc)] := by
  obtain ⟨high, low⟩ := s.push16_bytes s.pc
  exact ⟨_, rfl, rfl, s.callTo_sp target, high, low, (s.callTo_frame target).retire k,
    returns_retire k (s.callTo_extra target) (s.callTo_bus target) (s.callTo_backend target)⟩

/-- RET, and RET cc where it is taken, differ in the count alone. -/
theorem State.popPC_retire_returns (s : State) (k : Nat) :
    (s.popPC.retire k).pc = s.replyAfter s.sp (s.sp + 1) ++ s.reply s.sp ∧ (s.popPC.retire k).sp = s.sp + 2 ∧
      Frame s (s.popPC.retire k) [.pc, .sp] [] ∧
      Returns s (s.popPC.retire k) k
        [.read s.sp (s.reply s.sp), .read (s.sp + 1) (s.replyAfter s.sp (s.sp + 1))] :=
  ⟨s.popPC_pc, s.popPC_sp, s.popPC_frame.retire k, returns_retire k s.popPC_extra s.popPC_bus s.popPC_backend⟩

/-! ## The obligations -/

/-- Settles O48: both are `jump`, which makes no access; JP (HL) takes HL itself as its target. -/
theorem jumpsSetPC : Obligations.JumpsSetPC := by
  unfold Obligations.JumpsSetPC
  intro s nn i bytes target count form
  simp only [List.mem_cons, List.not_mem_nil, or_false, Prod.mk.injEq] at form
  obtain ⟨rfl, rfl, rfl, rfl⟩ | ⟨rfl, rfl, rfl, rfl⟩ := form
  · exact ⟨rfl, jump_jumps _ 16 s⟩
  · exact ⟨rfl, jump_jumps _ 4 s⟩

/-- Settles O49: JP cc,nn is `jump` where the condition holds, and a bare count where it does not. -/
theorem conditionalJump : Obligations.ConditionalJump := by
  unfold Obligations.ConditionalJump
  intro s nn cc holds row
  rw [exec_ofJpCC, jumpIf_eq, State.cond_eq_of_row row]
  refine ⟨encode_ofJpCC cc nn, ?_⟩
  cases holds with
  | true => exact jump_jumps nn 16 s
  | false =>
    obtain ⟨frame, returns⟩ := s.retire_only 12
    exact ⟨_, rfl, rfl, frame.mono (by decide) (by decide), returns⟩

/-- Settles O51: CALL nn is `call`, a push of PC and then a write of it. -/
theorem callPushesReturnAddress : Obligations.CallPushesReturnAddress := by
  unfold Obligations.CallPushesReturnAddress
  intro s nn
  exact ⟨rfl, call_calls nn 24 s⟩

/-- Settles O52: CALL cc,nn is CALL nn where the condition holds, and a bare count where it does not. -/
theorem conditionalCall : Obligations.ConditionalCall := by
  unfold Obligations.ConditionalCall
  intro s nn cc holds row
  rw [exec_ofCallCC, callIf_eq, State.cond_eq_of_row row]
  refine ⟨encode_ofCallCC cc nn, ?_⟩
  cases holds with
  | true =>
    obtain ⟨t, next, called⟩ := call_calls nn 24 s
    exact ⟨t, next, fun _ => called, nofun⟩
  | false => exact ⟨_, rfl, nofun, fun _ => s.retire_only 12⟩

/-- Settles O53: RET is `popPC` with the count 16. -/
theorem retPopsPC : Obligations.RetPopsPC := by
  unfold Obligations.RetPopsPC
  intro s
  exact ⟨rfl, _, rfl, s.popPC_retire_returns 16⟩

/-- Settles O55: RET cc is `popPC` with the count 20 where the condition holds, and a bare count where it does not. -/
theorem conditionalReturn : Obligations.ConditionalReturn := by
  unfold Obligations.ConditionalReturn
  intro s cc holds row
  rw [exec_ofRetCC, returnIf_eq, State.cond_eq_of_row row]
  refine ⟨encode_ofRetCC cc, ?_⟩
  cases holds with
  | true => exact ⟨_, rfl, fun _ => s.popPC_retire_returns 20, nofun⟩
  | false => exact ⟨_, rfl, nofun, fun _ => s.retire_only 8⟩

end Sys2Proof.Machine
end

section
/-! PROOFS. The decoder and the encoder undo each other (30_encoding.md R76 to R96): O1 to O3. -/

namespace Sys2Proof.Laws.RoundTrip

open Machine

/-- The lemmas of the constructors, collected. -/
theorem statement : ∀ i : Instr, Statement i
  | .ld_bc_nn nn => ld_bc_nn nn | .ld_b_n n => ld_b_n n | .ld_atNn_sp nn => ld_atNn_sp nn | .ld_c_n n => ld_c_n n
  | .stop x => stop x | .ld_de_nn nn => ld_de_nn nn | .ld_d_n n => ld_d_n n | .jr_n n => jr_n n
  | .ld_e_n n => ld_e_n n | .jr_nz_n n => jr_nz_n n | .ld_hl_nn nn => ld_hl_nn nn | .ld_h_n n => ld_h_n n
  | .jr_z_n n => jr_z_n n | .ld_l_n n => ld_l_n n | .jr_nc_n n => jr_nc_n n | .ld_sp_nn nn => ld_sp_nn nn
  | .ld_atHL_n n => ld_atHL_n n | .jr_c_n n => jr_c_n n | .ld_a_n n => ld_a_n n | .jp_nz_nn nn => jp_nz_nn nn
  | .jp_nn nn => jp_nn nn | .call_nz_nn nn => call_nz_nn nn | .add_a_n n => add_a_n n | .jp_z_nn nn => jp_z_nn nn
  | .cbPrefix cb => cbPrefix cb | .call_z_nn nn => call_z_nn nn | .call_nn nn => call_nn nn | .adc_a_n n => adc_a_n n
  | .jp_nc_nn nn => jp_nc_nn nn | .unknown op => unknown op | .call_nc_nn nn => call_nc_nn nn | .sub_n n => sub_n n
  | .jp_c_nn nn => jp_c_nn nn | .call_c_nn nn => call_c_nn nn | .sbc_a_n n => sbc_a_n n | .ldh_atN_a n => ldh_atN_a n
  | .and_n n => and_n n | .add_sp_n n => add_sp_n n | .ld_atNn_a nn => ld_atNn_a nn | .xor_n n => xor_n n
  | .ldh_a_atN n => ldh_a_atN n | .or_n n => or_n n | .ld_hl_sp_n n => ld_hl_sp_n n | .ld_a_atNn nn => ld_a_atNn nn
  | .cp_n n => cp_n n | .rlc r => rlc r | .rrc r => rrc r | .rl r => rl r | .rr r => rr r | .sla r => sla r
  | .sra r => sra r | .swap r => swap r | .srl r => srl r | .bit k r => bit k r | .res k r => res k r
  | .set k r => set k r | .nop => nop | .ld_atBC_a => ld_atBC_a | .inc_bc => inc_bc | .inc_b => inc_b
  | .dec_b => dec_b | .rlca => rlca | .add_hl_bc => add_hl_bc | .ld_a_atBC => ld_a_atBC | .dec_bc => dec_bc
  | .inc_c => inc_c | .dec_c => dec_c | .rrca => rrca | .ld_atDE_a => ld_atDE_a | .inc_de => inc_de | .inc_d => inc_d
  | .dec_d => dec_d | .rla => rla | .add_hl_de => add_hl_de | .ld_a_atDE => ld_a_atDE | .dec_de => dec_de
  | .inc_e => inc_e | .dec_e => dec_e | .rra => rra | .ldi_atHL_a => ldi_atHL_a | .inc_hl => inc_hl | .inc_h => inc_h
  | .dec_h => dec_h | .daa => daa | .add_hl_hl => add_hl_hl | .ldi_a_atHL => ldi_a_atHL | .dec_hl => dec_hl
  | .inc_l => inc_l | .dec_l => dec_l | .cpl => cpl | .ldd_atHL_a => ldd_atHL_a | .inc_sp => inc_sp
  | .inc_atHL => inc_atHL | .dec_atHL => dec_atHL | .scf => scf | .add_hl_sp => add_hl_sp | .ldd_a_atHL => ldd_a_atHL
  | .dec_sp => dec_sp | .inc_a => inc_a | .dec_a => dec_a | .ccf => ccf | .ld_b_b => ld_b_b | .ld_b_c => ld_b_c
  | .ld_b_d => ld_b_d | .ld_b_e => ld_b_e | .ld_b_h => ld_b_h | .ld_b_l => ld_b_l | .ld_b_atHL => ld_b_atHL
  | .ld_b_a => ld_b_a | .ld_c_b => ld_c_b | .ld_c_c => ld_c_c | .ld_c_d => ld_c_d | .ld_c_e => ld_c_e
  | .ld_c_h => ld_c_h | .ld_c_l => ld_c_l | .ld_c_atHL => ld_c_atHL | .ld_c_a => ld_c_a | .ld_d_b => ld_d_b
  | .ld_d_c => ld_d_c | .ld_d_d => ld_d_d | .ld_d_e => ld_d_e | .ld_d_h => ld_d_h | .ld_d_l => ld_d_l
  | .ld_d_atHL => ld_d_atHL | .ld_d_a => ld_d_a | .ld_e_b => ld_e_b | .ld_e_c => ld_e_c | .ld_e_d => ld_e_d
  | .ld_e_e => ld_e_e | .ld_e_h => ld_e_h | .ld_e_l => ld_e_l | .ld_e_atHL => ld_e_atHL | .ld_e_a => ld_e_a
  | .ld_h_b => ld_h_b | .ld_h_c => ld_h_c | .ld_h_d => ld_h_d | .ld_h_e => ld_h_e | .ld_h_h => ld_h_h
  | .ld_h_l => ld_h_l | .ld_h_atHL => ld_h_atHL | .ld_h_a => ld_h_a | .ld_l_b => ld_l_b | .ld_l_c => ld_l_c
  | .ld_l_d => ld_l_d | .ld_l_e => ld_l_e | .ld_l_h => ld_l_h | .ld_l_l => ld_l_l | .ld_l_atHL => ld_l_atHL
  | .ld_l_a => ld_l_a | .ld_atHL_b => ld_atHL_b | .ld_atHL_c => ld_atHL_c | .ld_atHL_d => ld_atHL_d
  | .ld_atHL_e => ld_atHL_e | .ld_atHL_h => ld_atHL_h | .ld_atHL_l => ld_atHL_l | .halt => halt
  | .ld_atHL_a => ld_atHL_a | .ld_a_b => ld_a_b | .ld_a_c => ld_a_c | .ld_a_d => ld_a_d | .ld_a_e => ld_a_e
  | .ld_a_h => ld_a_h | .ld_a_l => ld_a_l | .ld_a_atHL => ld_a_atHL | .ld_a_a => ld_a_a | .add_a_b => add_a_b
  | .add_a_c => add_a_c | .add_a_d => add_a_d | .add_a_e => add_a_e | .add_a_h => add_a_h | .add_a_l => add_a_l
  | .add_a_atHL => add_a_atHL | .add_a_a => add_a_a | .adc_a_b => adc_a_b | .adc_a_c => adc_a_c | .adc_a_d => adc_a_d
  | .adc_a_e => adc_a_e | .adc_a_h => adc_a_h | .adc_a_l => adc_a_l | .adc_a_atHL => adc_a_atHL | .adc_a_a => adc_a_a
  | .sub_b => sub_b | .sub_c => sub_c | .sub_d => sub_d | .sub_e => sub_e | .sub_h => sub_h | .sub_l => sub_l
  | .sub_atHL => sub_atHL | .sub_a => sub_a | .sbc_a_b => sbc_a_b | .sbc_a_c => sbc_a_c | .sbc_a_d => sbc_a_d
  | .sbc_a_e => sbc_a_e | .sbc_a_h => sbc_a_h | .sbc_a_l => sbc_a_l | .sbc_a_atHL => sbc_a_atHL | .sbc_a_a => sbc_a_a
  | .and_b => and_b | .and_c => and_c | .and_d => and_d | .and_e => and_e | .and_h => and_h | .and_l => and_l
  | .and_atHL => and_atHL | .and_a => and_a | .xor_b => xor_b | .xor_c => xor_c | .xor_d => xor_d | .xor_e => xor_e
  | .xor_h => xor_h | .xor_l => xor_l | .xor_atHL => xor_atHL | .xor_a => xor_a | .or_b => or_b | .or_c => or_c
  | .or_d => or_d | .or_e => or_e | .or_h => or_h | .or_l => or_l | .or_atHL => or_atHL | .or_a => or_a
  | .cp_b => cp_b | .cp_c => cp_c | .cp_d => cp_d | .cp_e => cp_e | .cp_h => cp_h | .cp_l => cp_l
  | .cp_atHL => cp_atHL | .cp_a => cp_a | .ret_nz => ret_nz | .pop_bc => pop_bc | .push_bc => push_bc
  | .rst_00 => rst_00 | .ret_z => ret_z | .ret => ret | .rst_08 => rst_08 | .ret_nc => ret_nc | .pop_de => pop_de
  | .push_de => push_de | .rst_10 => rst_10 | .ret_c => ret_c | .reti => reti | .rst_18 => rst_18 | .pop_hl => pop_hl
  | .ld_atC_a => ld_atC_a | .push_hl => push_hl | .rst_20 => rst_20 | .jp_hl => jp_hl | .rst_28 => rst_28
  | .pop_af => pop_af | .ld_a_atC => ld_a_atC | .di => di | .push_af => push_af | .rst_30 => rst_30
  | .ld_sp_hl => ld_sp_hl | .ei => ei | .rst_38 => rst_38

end Sys2Proof.Laws.RoundTrip

namespace Sys2Proof.Machine

/-! ## The bytes of the forms -/

theorem encode_ofIncR (r : R8) : encode (.ofIncR r) = [BitVec.ofNat 8 (0x04 + 8 * r.index)] := by cases r <;> rfl

theorem encode_ofDecR (r : R8) : encode (.ofDecR r) = [BitVec.ofNat 8 (0x05 + 8 * r.index)] := by cases r <;> rfl

theorem encode_ofIncRR (p : R16) : encode (.ofIncRR p) = [BitVec.ofNat 8 (0x03 + 16 * p.index)] := by cases p <;> rfl

theorem encode_ofDecRR (p : R16) : encode (.ofDecRR p) = [BitVec.ofNat 8 (0x0B + 16 * p.index)] := by cases p <;> rfl

theorem encode_ofRst (k : Fin 8) : encode (.ofRst k) = [BitVec.ofNat 8 (0xC7 + 8 * k.val)] := by
  revert k; decide

theorem encode_ofShift (t : ShiftOp) (r : R8) :
    encode (.ofShift t r) = [0xCB, BitVec.ofNat 8 (8 * t.index + r.index)] := by
  cases t <;> exact congrArg (fun cb => [0xCB, cb]) (cbByte_ofNat _ 0 r)

theorem encode_res (k : Fin 8) (r : R8) :
    encode (.res k r) = [0xCB, BitVec.ofNat 8 (0x80 + 8 * k.val + r.index)] :=
  congrArg (fun cb => [0xCB, cb]) (cbByte_ofNat 0x80 k r)

theorem encode_set (k : Fin 8) (r : R8) :
    encode (.set k r) = [0xCB, BitVec.ofNat 8 (0xC0 + 8 * k.val + r.index)] :=
  congrArg (fun cb => [0xCB, cb]) (cbByte_ofNat 0xC0 k r)

/-! ## The fields of a byte -/

theorem field_lt (v : Byte) (lo len : Nat) : field v lo len < 2 ^ len := Nat.mod_lt _ (Nat.two_pow_pos len)

/-- The fields of R79: bits 7..6, 5..3 and 2..0. -/
theorem byte_eq_fields (v : Byte) : v = BitVec.ofNat 8 (64 * field v 6 2 + 8 * field v 3 3 + field v 0 3) := by
  apply BitVec.eq_of_toNat_eq
  have bound := v.isLt
  simp only [field, Nat.reducePow, BitVec.toNat_ofNat]
  omega

theorem R8.index_ofIndex {n : Nat} (h : n < 8) : (R8.ofIndex n).index = n := by
  interval_cases n <;> rfl

theorem ShiftOp.index_ofIndex {n : Nat} (h : n < 8) : (ShiftOp.ofIndex n).index = n := by
  interval_cases n <;> rfl

theorem AluOp.index_ofIndex {n : Nat} (h : n < 8) : (AluOp.ofIndex n).index = n := by
  interval_cases n <;> rfl

/-! ## What is decoded is well-formed and encodes to what was read -/

/-- The instruction is well-formed, and these are its bytes. -/
def Reads (i : Instr) (bytes : List Byte) : Prop := i.WellFormed = true ∧ encode i = bytes

theorem ofLdRR_wellFormed (dst src : R8) : (Instr.ofLdRR dst src).WellFormed = true := by
  cases dst <;> cases src <;> rfl

theorem ofAluR_wellFormed (k : AluOp) (r : R8) : (Instr.ofAluR k r).WellFormed = true := by
  cases k <;> cases r <;> rfl

theorem ofShift_wellFormed (t : ShiftOp) (r : R8) : (Instr.ofShift t r).WellFormed = true := by
  cases t <;> rfl

/-- The prefix redirects no other entry (R94), and it is not well-formed. -/
theorem resolvePrefix_of_wellFormed {i : Instr} (wf : i.WellFormed = true) : resolvePrefix i = i := by
  cases i with
  | cbPrefix cb => exact absurd wf (by simp [Instr.WellFormed])
  | _ => rfl

/-- The CB table (R89): each quarter's form has the byte that its fields make. -/
theorem decodeCb_reads (cb : Byte) : Reads (decodeCb cb) [0xCB, cb] := by
  have byte := byte_eq_fields cb
  have reg := R8.index_ofIndex (field_lt cb 0 3)
  have shift := ShiftOp.index_ofIndex (field_lt cb 3 3)
  have bit : (Fin.ofNat 8 (field cb 3 3)).val = field cb 3 3 := Nat.mod_eq_of_lt (field_lt cb 3 3)
  have quarter := field_lt cb 6 2
  unfold decodeCb
  generalize field cb 6 2 = x at byte quarter ⊢
  match x with
  | 0 =>
    rw [Nat.mul_zero, Nat.zero_add] at byte
    exact ⟨ofShift_wellFormed _ _, (encode_ofShift _ _).trans (by rw [shift, reg, ← byte])⟩
  | 1 => exact ⟨rfl, (encode_bit _ _).trans (by rw [bit, reg]; exact congrArg ([0xCB, ·]) byte.symm)⟩
  | 2 => exact ⟨rfl, (encode_res _ _).trans (by rw [bit, reg]; exact congrArg ([0xCB, ·]) byte.symm)⟩
  | 3 => exact ⟨rfl, (encode_set _ _).trans (by rw [bit, reg]; exact congrArg ([0xCB, ·]) byte.symm)⟩
  | _ + 4 => omega

/-- Rows 0x00 to 0x3F (R88), entry by entry. -/
theorem decodeX0_reads {y z : Nat} (hy : y < 8) (hz : z < 8) (nn : Word) :
    let op := BitVec.ofNat 8 (8 * y + z)
    Reads (resolvePrefix (decodeX0 op (lo8 nn) nn y z)) ([op, lo8 nn, hi8 nn].take (instrLength op)) := by
  interval_cases y <;> interval_cases z <;> exact ⟨rfl, rfl⟩

/-- Rows 0xC0 to 0xFF (R88), entry by entry; that of the prefix is the CB table's. -/
theorem decodeX3_reads {y z : Nat} (hy : y < 8) (hz : z < 8) (nn : Word) :
    let op := BitVec.ofNat 8 (64 * 3 + 8 * y + z)
    Reads (resolvePrefix (decodeX3 op (lo8 nn) nn y z)) ([op, lo8 nn, hi8 nn].take (instrLength op)) := by
  interval_cases y <;> interval_cases z <;> first | exact ⟨rfl, rfl⟩ | exact decodeCb_reads (lo8 nn)

/-- The middle rows, 0x40 to 0xBF, hold one-byte instructions alone (R76). -/
theorem instrLength_middle {op : Byte} (h : field op 6 2 = 1 ∨ field op 6 2 = 2) : instrLength op = 1 := by
  unfold instrLength
  obtain h | h := h <;> rw [h] <;> rfl

/-- The bytes that an opcode's length takes are those of the instruction it stands for. -/
theorem decode3_reads (op b1 b2 : Byte) : Reads (decode3 op b1 b2) ([op, b1, b2].take (instrLength op)) := by
  have byte := byte_eq_fields op
  have hx := field_lt op 6 2
  have hy := field_lt op 3 3
  have hz := field_lt op 0 3
  have reg := R8.index_ofIndex hz
  have middle := instrLength_middle (op := op)
  unfold decode3 decodePrimary
  generalize field op 6 2 = x at byte hx middle ⊢
  match x with
  | 0 =>
    have row := decodeX0_reads hy hz (join b2 b1)
    rw [lo8_join, hi8_join] at row
    rw [Nat.mul_zero, Nat.zero_add] at byte
    rwa [← byte] at row
  | 1 =>
    have wf := ofLdRR_wellFormed (.ofIndex (field op 3 3)) (.ofIndex (field op 0 3))
    simp only [resolvePrefix_of_wellFormed wf, middle (.inl rfl)]
    exact ⟨wf, by rw [encode_ofLdRR, R8.index_ofIndex hy, reg]; exact congrArg ([·]) byte.symm⟩
  | 2 =>
    have wf := ofAluR_wellFormed (.ofIndex (field op 3 3)) (.ofIndex (field op 0 3))
    simp only [resolvePrefix_of_wellFormed wf, middle (.inr rfl)]
    exact ⟨wf, by rw [encode_ofAluR, AluOp.index_ofIndex hy, reg]; exact congrArg ([·]) byte.symm⟩
  | 3 =>
    have row := decodeX3_reads hy hz (join b2 b1)
    rw [lo8_join, hi8_join] at row
    rwa [← byte] at row
  | _ + 4 => omega

/-! ## Lists of bytes -/

/-- An instruction is one, two or three bytes long (R76). -/
theorem instrLength_cases (op : Byte) : instrLength op = 1 ∨ instrLength op = 2 ∨ instrLength op = 3 := by
  unfold instrLength
  repeat' split
  all_goals decide

/-- A list as long as its first byte asks for is read whole. -/
theorem decode_append {bytes : List Byte} (rest : List Byte) (len : bytes.length = instrLength (bytes.getD 0 0)) :
    decode (bytes ++ rest) = .ok (decode3 (bytes.getD 0 0) (bytes.getD 1 0) (bytes.getD 2 0), rest) := by
  match bytes with
  | [] => exact absurd len (by decide)
  | [op] => simp [decode, ← show 1 = instrLength op from len]
  | [op, b1] => simp [decode, ← show 2 = instrLength op from len]
  | [op, b1, b2] => simp [decode, ← show 3 = instrLength op from len]
  | op :: b1 :: b2 :: b3 :: more =>
    have long : more.length + 4 = instrLength op := len
    have := instrLength_cases op
    omega

/-- What a successful decode has read: the instruction of its first byte and of the bytes its length takes. -/
theorem decode_eq_ok {bytes rest : List Byte} {i : Instr} (h : decode bytes = .ok (i, rest)) :
    ∃ op b1 b2, i = decode3 op b1 b2 ∧ [op, b1, b2].take (instrLength op) ++ rest = bytes := by
  match bytes with
  | [] => exact nomatch h
  | op :: tail =>
    simp only [decode] at h
    split at h <;> cases h
    · next len => exact ⟨op, 0, 0, rfl, by rw [len]; rfl⟩
    · next len => exact ⟨op, _, 0, rfl, by rw [len]; rfl⟩
    · next len => exact ⟨op, _, _, rfl, by rw [len]; rfl⟩

/-! ## The obligations -/

/-- Settles O1: each word is read by computing. -/
theorem writtenOutWordsDecode : Obligations.WrittenOutWordsDecode := by
  unfold Obligations.WrittenOutWordsDecode
  exact ⟨rfl, rfl, rfl, rfl, rfl, rfl, rfl, rfl, rfl, rfl, rfl, rfl, rfl⟩

/-- Settles O2: the bytes of a well-formed instruction are as many as the first of them asks for. -/
theorem decodeEncodeRoundTrip : Obligations.DecodeEncodeRoundTrip := by
  unfold Obligations.DecodeEncodeRoundTrip
  intro i rest wf
  obtain ⟨len, reads⟩ := Laws.RoundTrip.statement i wf
  rw [decode_append rest len, reads]

/-- Settles O3: the bytes read are those that the opcode's length takes. -/
theorem encodeDecodeRoundTrip : Obligations.EncodeDecodeRoundTrip := by
  unfold Obligations.EncodeDecodeRoundTrip
  intro bytes rest i h
  obtain ⟨op, b1, b2, rfl, read⟩ := decode_eq_ok h
  obtain ⟨wf, encoded⟩ := decode3_reads op b1 b2
  exact ⟨wf, encoded ▸ read⟩

end Sys2Proof.Machine
end

section
/-! PROOFS. What an instruction and a step do to the bus and to memory, on any bus (00_scope.md R8, 20_memory.md R68):
O7, O14, O15 and O60. -/

namespace Sys2Proof.Machine

/-! ## Memory after a list of accesses -/

/-- The MMU's bytes after these accesses, in order. -/
def Backend.storeAll (bus : Backend) (m : Memory) : List BusAccess → Memory
  | [] => m
  | .read _ _ :: xs => bus.storeAll m xs
  | .write a v :: xs => bus.storeAll (bus.store a v m) xs

@[simp] theorem Backend.storeAll_nil (b : Backend) (m : Memory) : b.storeAll m [] = m := rfl

@[simp] theorem Backend.storeAll_read (b : Backend) (m : Memory) (a : Word) (v : Byte) (xs : List BusAccess) :
    b.storeAll m (.read a v :: xs) = b.storeAll m xs := rfl

@[simp] theorem Backend.storeAll_write (b : Backend) (m : Memory) (a : Word) (v : Byte) (xs : List BusAccess) :
    b.storeAll m (.write a v :: xs) = b.storeAll (b.store a v m) xs := rfl

@[simp] theorem Backend.storeAll_append (b : Backend) (m : Memory) (xs ys : List BusAccess) :
    b.storeAll m (xs ++ ys) = b.storeAll (b.storeAll m xs) ys := by
  induction xs generalizing m with
  | nil => rfl
  | cons x xs ih => cases x <;> simp [ih]

@[simp] theorem Backend.storeAll_reads (s : State) (r : R8) (b : Backend) (m : Memory) :
    b.storeAll m (s.reads r) = m := by cases r <;> rfl

@[simp] theorem Backend.storeAll_writes (s : State) (r : R8) (v : Byte) (b : Backend) (m : Memory) :
    b.storeAll m (s.writes r v) = if r = .atHL then b.store s.hl v m else m := by cases r <;> rfl

/-- The bytes of a substituted bus are its own: the MMU's stay. -/
theorem Backend.storeAll_of_ne_mmu {b : Backend} (h : b ≠ .mmu) (m : Memory) (xs : List BusAccess) :
    b.storeAll m xs = m := by
  induction xs with
  | nil => rfl
  | cons x xs ih =>
    cases b with
    | mmu => exact absurd rfl h
    | substituted replies past => cases x <;> exact ih

/-- Every access keeps the canonical form. -/
theorem Backend.wf_storeAll (b : Backend) {m : Memory} (hm : m.wf = true) (xs : List BusAccess) :
    (b.storeAll m xs).wf = true := by
  induction xs generalizing m with
  | nil => exact hm
  | cons x xs ih =>
    cases x with
    | read a v => exact ih hm
    | write a v => exact ih (b.wf_store a v hm)

/-- A byte that reads otherwise was written, on the MMU, in a region that stores. -/
theorem Backend.storeAll_changed (b : Backend) {m : Memory} {x : Word} (xs : List BusAccess)
    (changed : (b.storeAll m xs).read x ≠ m.read x) :
    b = .mmu ∧ (∃ v, .write x v ∈ xs) ∧ (regionOf x.toNat).stores = true := by
  induction xs generalizing m with
  | nil => exact absurd rfl changed
  | cons y xs ih =>
    cases y with
    | read a v =>
      obtain ⟨mmu, ⟨w, later⟩, stores⟩ := ih changed
      exact ⟨mmu, ⟨w, List.mem_cons_of_mem _ later⟩, stores⟩
    | write a v =>
      by_cases here : b = .mmu ∧ x = a ∧ (regionOf a.toNat).stores = true
      · obtain ⟨mmu, rfl, stores⟩ := here
        exact ⟨mmu, ⟨v, List.mem_cons_self⟩, stores⟩
      · obtain ⟨mmu, ⟨w, later⟩, stores⟩ := ih (m := b.store a v m) (by rwa [b.store_read m a x v, if_neg here])
        exact ⟨mmu, ⟨w, List.mem_cons_of_mem _ later⟩, stores⟩

/-! ## The same operation on a bus that answers the same bytes -/

@[simp] theorem readBytes_append (xs ys : List BusAccess) : readBytes (xs ++ ys) = readBytes xs ++ readBytes ys := by
  induction xs with
  | nil => rfl
  | cons x xs ih => cases x <;> simp [readBytes, ih]

@[simp] theorem readBytes_writes (s : State) (r : R8) (v : Byte) : readBytes (s.writes r v) = [] := by cases r <;> rfl

section
variable (s : State) (m : Memory) (replies : List Byte) (past : List BusAccess)

@[simp] theorem State.memRead_onBus (a : Word) :
    (s.onBus m (.substituted (s.reply a :: replies) past)).memRead a =
      (s.reply a, (s.memRead a).2.onBus m (.substituted replies (past ++ [.read a (s.reply a)]))) := rfl

@[simp] theorem State.memWrite_onBus (a : Word) (v : Byte) :
    (s.onBus m (.substituted replies past)).memWrite a v =
      (s.memWrite a v).onBus m (.substituted replies (past ++ [.write a v])) := rfl

@[simp] theorem State.readR8_onBus (r : R8) :
    (s.onBus m (.substituted (readBytes (s.reads r) ++ replies) past)).readR8 r =
      (s.r8 r, (s.readR8 r).2.onBus m (.substituted replies (past ++ s.reads r))) := by
  cases r <;> simp [State.reads, State.readR8, State.r8, readBytes]

@[simp] theorem State.writeR8_onBus (r : R8) (v : Byte) :
    (s.onBus m (.substituted replies past)).writeR8 r v =
      (s.writeR8 r v).onBus m (.substituted replies (past ++ s.writes r v)) := by
  cases r <;> simp [State.writes, State.writeR8] <;> rfl

@[simp] theorem State.push16_onBus (v : Word) :
    (s.onBus m (.substituted replies past)).push16 v =
      (s.push16 v).onBus m (.substituted replies (past ++ [.write (s.sp - 1) (hi8 v), .write (s.sp - 2) (lo8 v)])) := by
  simp [State.push16_eq, State.onBus, Backend.after, Backend.store]

@[simp] theorem State.pop16_onBus :
    (s.onBus m (.substituted (s.reply s.sp :: s.replyAfter s.sp (s.sp + 1#16) :: replies) past)).pop16 =
      (s.pop16.1, s.pop16.2.onBus m (.substituted replies
        (past ++ [.read s.sp (s.reply s.sp), .read (s.sp + 1) (s.replyAfter s.sp (s.sp + 1))]))) := by
  simp [State.pop16_eq, State.onBus, State.replyAfter, State.memRead, State.noteAccess, State.reply, Backend.reply,
    Backend.after]

@[simp] theorem State.popPC_onBus :
    (s.onBus m (.substituted (s.reply s.sp :: s.replyAfter s.sp (s.sp + 1#16) :: replies) past)).popPC =
      s.popPC.onBus m (.substituted replies
        (past ++ [.read s.sp (s.reply s.sp), .read (s.sp + 1) (s.replyAfter s.sp (s.sp + 1))])) := by
  rw [State.popPC, State.pop16_onBus]
  rfl

variable (b : Backend)

@[simp] theorem State.setPC_onBus (v : Word) : (s.onBus m b).setPC v = (s.setPC v).onBus m b := rfl
@[simp] theorem State.setIME_onBus (v : Bool) : (s.onBus m b).setIME v = (s.setIME v).onBus m b := rfl
@[simp] theorem State.setA_onBus (v : Byte) : (s.onBus m b).setA v = (s.setA v).onBus m b := rfl
@[simp] theorem State.setHL_onBus (v : Word) : (s.onBus m b).setHL v = (s.setHL v).onBus m b := rfl
@[simp] theorem State.setFlags_onBus (z n h c : Bool) :
    (s.onBus m b).setFlags z n h c = (s.setFlags z n h c).onBus m b := rfl
@[simp] theorem State.addExtra_onBus (k : Nat) : (s.onBus m b).addExtra k = (s.addExtra k).onBus m b := rfl
@[simp] theorem State.retire_onBus (k : Nat) : (s.onBus m b).retire k = (s.retire k).onBus m b := rfl
@[simp] theorem State.writeR16_onBus (p : R16) (v : Word) :
    (s.onBus m b).writeR16 p v = (s.writeR16 p v).onBus m b := by cases p <;> rfl
@[simp] theorem State.writeR16s_onBus (q : R16s) (v : Word) :
    (s.onBus m b).writeR16s q v = (s.writeR16s q v).onBus m b := by cases q <;> rfl
@[simp] theorem State.readR16_onBus (p : R16) : (s.onBus m b).readR16 p = s.readR16 p := by cases p <;> rfl
@[simp] theorem State.readR16s_onBus (q : R16s) : (s.onBus m b).readR16s q = s.readR16s q := by cases q <;> rfl
@[simp] theorem State.cond_onBus (cc : Cond) : (s.onBus m b).cond cc = s.cond cc := by cases cc <;> rfl
@[simp] theorem State.applyAlu_onBus (k : AluOp) (v : Byte) :
    (s.onBus m b).applyAlu k v = (s.applyAlu k v).onBus m b := rfl

end

/-! ## What an instruction does to the bus -/

/-- From `s` to `t` the bus had these accesses, and memory is what they leave of it. -/
structure Accesses (s t : State) (xs : List BusAccess) : Prop where
  bus : t.bus = s.bus ++ xs
  backend : t.backend = s.backend.afterAll xs
  mem : t.mem = s.backend.storeAll s.mem xs

/-- What the meaning answers at `s`, and what it answers on another bus that gives the bytes it read. -/
def Agrees (s : State) (m : Memory) (bus : Backend) (r r' : Result) : Prop :=
  ∀ t, r = .next t → ∃ xs, Accesses s t xs ∧
    ∀ replies past, bus = .substituted (readBytes xs ++ replies) past →
      r' = .next (t.onBus m (.substituted replies (past ++ xs)))

theorem Agrees.intro {s t : State} {m : Memory} {bus : Backend} {r' : Result} (xs : List BusAccess)
    (mirror : ∀ replies past, bus = .substituted (readBytes xs ++ replies) past →
      r' = .next (t.onBus m (.substituted replies (past ++ xs))))
    (hbus : t.bus = s.bus ++ xs := by simp) (hbackend : t.backend = s.backend.afterAll xs := by simp)
    (hmem : t.mem = s.backend.storeAll s.mem xs := by simp) : Agrees s m bus (.next t) r' := by
  rintro _ ⟨⟩
  exact ⟨xs, ⟨hbus, hbackend, hmem⟩, mirror⟩

/-- An operation on the registers alone. -/
theorem Agrees.silent {s t : State} {m : Memory} {bus : Backend} {r' : Result}
    (mirror : r' = .next (t.onBus m bus)) (hbus : t.bus = s.bus := by simp)
    (hbackend : t.backend = s.backend := by simp) (hmem : t.mem = s.mem := by simp) : Agrees s m bus (.next t) r' :=
  .intro [] (by rintro replies past rfl; simpa [readBytes] using mirror) (by simp [hbus]) hbackend hmem

/-- A jump relative to PC, taken or not. -/
theorem jumpRelIf_eq (cc : Cond) (n : Byte) (s : State) :
    jumpRelIf cc n s = if s.cond cc then jumpRel n s else .next (s.retire 8) :=
  State.branch_eq (s.cond cc) s (s.setPC (s.pc + sext16 n)) 4 8

theorem exec_agrees (i : Instr) (s : State) (m : Memory) (bus : Backend) :
    Agrees s m bus (exec i s) (exec i (s.onBus m bus)) := by
  have retired (k : Nat) : Agrees s m bus (.next (s.retire k)) (.next ((s.onBus m bus).retire k)) := .silent rfl
  have jumps (target : Word) (k : Nat) : Agrees s m bus (jump target k s) (jump target k (s.onBus m bus)) := .silent rfl
  have calls (target : Word) (k : Nat) : Agrees s m bus (call target k s) (call target k (s.onBus m bus)) :=
    .intro [.write (s.sp - 1) (hi8 s.pc), .write (s.sp - 2) (lo8 s.pc)] fun _ _ hb => by
      simp [hb, call, State.callTo, readBytes]
  have returns (k : Nat) :
      Agrees s m bus (.next (s.popPC.retire k)) (.next ((s.onBus m bus).popPC.retire k)) :=
    .intro [.read s.sp (s.reply s.sp), .read (s.sp + 1) (s.replyAfter s.sp (s.sp + 1))] fun _ _ hb => by
      simp [hb, readBytes]
  exact exec_elim₂
    (hCopy := fun dst src => .intro (s.reads src ++ s.writes dst (s.r8 src)) fun _ _ hb => by simp [hb, copyR8])
    (hLoadImm := fun dst n => .intro (s.writes dst n) fun _ _ hb => by simp [hb, loadImm])
    (hStoreA := fun a _ _ => .intro [.write a s.a] fun _ _ hb => by simp [hb, storeA, readBytes])
    (hLoadA := fun a _ _ => .intro [.read a (s.reply a)] fun _ _ hb => by simp [hb, loadA, readBytes])
    (hStoreStep := fun _ => .intro [.write s.hl s.a] fun _ _ hb => by simp [hb, storeAStep, readBytes])
    (hLoadStep := fun _ => .intro [.read s.hl (s.reply s.hl)] fun _ _ hb => by simp [hb, loadAStep, readBytes])
    (hLoadR16 := fun _ _ => .silent (by simp [loadR16]))
    (hStoreSP := fun nn => .intro [.write nn (lo8 s.sp), .write (nn + 1) (hi8 s.sp)] fun _ _ hb => by
      simp [hb, storeSP, readBytes])
    (hCopySP := .silent rfl)
    (hHLOffset := fun _ => .silent rfl)
    (hPush := fun q =>
      .intro [.write (s.sp - 1) (hi8 (s.readR16s q)), .write (s.sp - 2) (lo8 (s.readR16s q))] fun _ _ hb => by
        simp [hb, pushR16, readBytes])
    (hPop := fun _ =>
      .intro [.read s.sp (s.reply s.sp), .read (s.sp + 1) (s.replyAfter s.sp (s.sp + 1))] fun _ _ hb => by
        simp [-State.pop16_fst, hb, popR16, readBytes])
    (hAluR := fun _ r => .intro (s.reads r) fun _ _ hb => by simp [hb, aluR8])
    (hAluN := fun _ _ => .silent rfl)
    (hInc := fun r => .intro (s.reads r ++ s.writes r (inc8 (s.r8 r)).1) fun _ _ hb => by simp [hb, incR8])
    (hDec := fun r => .intro (s.reads r ++ s.writes r (dec8 (s.r8 r)).1) fun _ _ hb => by simp [hb, decR8])
    (hInc16 := fun _ => .silent (by simp [incR16]))
    (hDec16 := fun _ => .silent (by simp [decR16]))
    (hAddHL := fun _ => .silent (by simp [addToHL]))
    (hAddSP := fun _ => .silent rfl)
    (hDaa := .silent rfl)
    (hCpl := .silent rfl)
    (hCarry := fun _ => .silent rfl)
    (hRotA := fun _ => .silent rfl)
    (hShift := fun t r => .intro (s.reads r ++ s.writes r (shift t (s.r8 r) s.cf).1) fun _ _ hb => by
      simp [hb, cbShift])
    (hBit := fun _ r => .intro (s.reads r) fun _ _ hb => by simp [hb, cbBit])
    (hRes := fun k r => .intro (s.reads r ++ s.writes r (s.r8 r &&& ~~~((1 : Byte) <<< k.val))) fun _ _ hb => by
      simp [hb, cbRes])
    (hSet := fun k r => .intro (s.reads r ++ s.writes r (s.r8 r ||| ((1 : Byte) <<< k.val))) fun _ _ hb => by
      simp [hb, cbSet])
    (hJump := fun a k _ => jumps a k)
    (hJumpIf := fun cc nn => by
      rw [jumpIf_eq, jumpIf_eq, State.cond_onBus]
      split
      · exact jumps nn 16
      · exact retired 12)
    (hRel := fun _ => .silent rfl)
    (hRelIf := fun cc n => by
      rw [jumpRelIf_eq, jumpRelIf_eq, State.cond_onBus]
      split
      · exact .silent rfl
      · exact retired 8)
    (hCall := fun a k _ => calls a k)
    (hCallIf := fun cc nn => by
      rw [callIf_eq, callIf_eq, State.cond_onBus]
      split
      · exact calls nn 24
      · exact retired 12)
    (hRet := returns 16)
    (hReti := .intro [.read s.sp (s.reply s.sp), .read (s.sp + 1) (s.replyAfter s.sp (s.sp + 1))] fun _ _ hb => by
      simp [hb, returnEnable, readBytes])
    (hRetIf := fun cc => by
      rw [returnIf_eq, returnIf_eq, State.cond_onBus]
      split
      · exact returns 20
      · exact retired 8)
    (hNone := retired 4)
    (hIME := fun _ => .silent rfl)
    (hUnknown := fun _ _ h => nomatch h)
    i

/-! ## What a step does to the bus -/

@[simp] theorem Backend.storeAll_afterAll (b : Backend) (m : Memory) (xs ys : List BusAccess) :
    (b.afterAll xs).storeAll m ys = b.storeAll m ys := by
  induction ys generalizing m with
  | nil => rfl
  | cons y ys ih => cases y <;> simp [ih]

theorem Accesses.trans {s t u : State} {xs ys : List BusAccess} (h : Accesses s t xs) (h' : Accesses t u ys) :
    Accesses s u (xs ++ ys) where
  bus := by rw [h'.bus, h.bus, List.append_assoc]
  backend := by rw [h'.backend, h.backend, Backend.afterAll_append]
  mem := by rw [h'.mem, h.mem, h.backend, Backend.storeAll_afterAll, Backend.storeAll_append]

theorem State.fetch8_accesses (s : State) : Accesses s s.fetch8.2 [.read s.pc s.fetch8.1] := ⟨rfl, rfl, rfl⟩

theorem State.fetch8_onBus (s : State) (m : Memory) (replies : List Byte) (past : List BusAccess) :
    (s.onBus m (.substituted (s.fetch8.1 :: replies) past)).fetch8 =
      (s.fetch8.1, s.fetch8.2.onBus m (.substituted replies (past ++ [.read s.pc s.fetch8.1]))) := rfl

theorem State.beginStep_onBus (s : State) (m : Memory) (b : Backend) :
    (s.onBus m b).beginStep = s.beginStep.onBus m b := rfl

/-- The fetches of a step are reads, and any bus that answers the same bytes gives the same instruction. -/
theorem State.fetchInstr_agrees (s : State) : ∃ xs, Accesses s.beginStep s.fetchInstr.2 xs ∧
    ∀ m replies past, (s.onBus m (.substituted (readBytes xs ++ replies) past)).fetchInstr =
      (s.fetchInstr.1, s.fetchInstr.2.onBus m (.substituted replies (past ++ xs))) := by
  have first := s.beginStep.fetch8_accesses
  have second := first.trans s.beginStep.fetch8.2.fetch8_accesses
  have third := second.trans s.beginStep.fetch8.2.fetch8.2.fetch8_accesses
  obtain len | len | len := instrLength_cases s.beginStep.fetch8.1
  on_goal 1 => refine ⟨_, by simpa only [State.fetchInstr, len] using first, fun m replies past => ?_⟩
  on_goal 2 => refine ⟨_, by simpa only [State.fetchInstr, len] using second, fun m replies past => ?_⟩
  on_goal 3 => refine ⟨_, by simpa only [State.fetchInstr, len] using third, fun m replies past => ?_⟩
  all_goals
    simp only [State.fetchInstr, readBytes, List.cons_append, List.nil_append, List.append_assoc, State.beginStep_onBus,
      State.fetch8_onBus, len]

/-- The accesses of a step are those of its fetches and then those of its instruction. -/
theorem step_agrees {s t : State} (next : step s = .next t) : Accesses s.beginStep t t.bus ∧
    ∀ m replies past, step (s.onBus m (.substituted (readBytes t.bus ++ replies) past)) =
      .next (t.onBus m (.substituted replies (past ++ t.bus))) := by
  obtain ⟨xs, fetched, fetch⟩ := s.fetchInstr_agrees
  have executed (m : Memory) (bus : Backend) := exec_agrees s.fetchInstr.1 s.fetchInstr.2 m bus t next
  constructor
  · obtain ⟨ys, accesses, -⟩ := executed s.mem s.backend
    have whole := fetched.trans accesses
    rwa [show t.bus = xs ++ ys from whole.bus]
  · intro m replies past
    -- what the bus must still answer after the fetches is what the rest of the record read
    obtain ⟨ys, accesses, mirror⟩ :=
      executed m (.substituted (readBytes (t.bus.drop xs.length) ++ replies) (past ++ xs))
    have record : t.bus = xs ++ ys := (fetched.trans accesses).bus
    rw [record, List.drop_left] at mirror
    rw [step, record, readBytes_append, List.append_assoc, fetch, ← List.append_assoc]
    exact mirror replies (past ++ xs) rfl

/-! ## What every instruction keeps -/

/-- After the meaning the accumulator is cleared and F's low nibble is zero if it was, and the count is a positive
multiple of 4 on top of the accumulator. -/
def Keeps (s : State) (r : Result) : Prop :=
  ∀ t, r = .next t → t.extra = 0 ∧ (s.f &&& 0x0F#8 = 0#8 → t.f &&& 0x0F#8 = 0#8) ∧
    ∃ count, t.cycles = count + s.extra ∧ count % 4 = 0 ∧ 0 < count

/-- Every handler ends in `retire`, with its base count. -/
theorem Keeps.retire {s u : State} {base : Nat} (hbase : base % 4 = 0 ∧ 0 < base := by decide)
    (hf : s.f &&& 0x0F#8 = 0#8 → u.f &&& 0x0F#8 = 0#8 := by simp) (hextra : u.extra = s.extra := by simp) :
    Keeps s (.next (u.retire base)) := by
  rintro _ ⟨⟩
  exact ⟨rfl, hf, base, by rw [State.retire_cycles, hextra], hbase⟩

theorem exec_keeps (i : Instr) (s : State) : Keeps s (exec i s) :=
  exec_elim (P := Keeps s)
    (hCopy := fun dst src => .retire (by split <;> decide))
    (hLoadImm := fun dst _ => .retire (by cases dst <;> decide))
    (hStoreA := fun _ k count => .retire (by revert k; decide))
    (hLoadA := fun _ k count => .retire (by revert k; decide))
    (hStoreStep := fun _ => .retire)
    (hLoadStep := fun _ => .retire)
    (hLoadR16 := fun _ _ => .retire)
    (hStoreSP := fun _ => .retire)
    (hCopySP := .retire)
    (hHLOffset := fun _ => .retire)
    (hPush := fun _ => .retire)
    (hPop := fun q => .retire (hf := by cases q <;> simp [State.writeR16s]))
    (hAluR := fun _ r => .retire (by cases r <;> decide))
    (hAluN := fun _ _ => .retire)
    (hInc := fun r => .retire (by cases r <;> decide))
    (hDec := fun r => .retire (by cases r <;> decide))
    (hInc16 := fun _ => .retire)
    (hDec16 := fun _ => .retire)
    (hAddHL := fun _ => .retire)
    (hAddSP := fun _ => .retire)
    (hDaa := .retire)
    (hCpl := .retire)
    (hCarry := fun _ => .retire)
    (hRotA := fun _ => .retire)
    (hShift := fun _ r => by
      rw [cbShift, State.addExtra_retire_zero]
      exact .retire (by cases r <;> decide))
    (hBit := fun _ r => by
      rw [cbBit, State.addExtra_retire_zero]
      exact .retire (by cases r <;> decide))
    (hRes := fun _ r => by
      rw [cbRes, State.addExtra_retire_zero]
      exact .retire (by cases r <;> decide))
    (hSet := fun _ r => by
      rw [cbSet, State.addExtra_retire_zero]
      exact .retire (by cases r <;> decide))
    (hJump := fun _ k count => .retire (by revert k; decide))
    (hJumpIf := fun cc nn => by
      rw [jumpIf_eq]
      split
      · exact .retire
      · exact .retire)
    (hRel := fun _ => .retire)
    (hRelIf := fun cc n => by
      rw [jumpRelIf_eq]
      split
      · exact .retire
      · exact .retire)
    (hCall := fun _ k count => .retire (by revert k; decide))
    (hCallIf := fun cc nn => by
      rw [callIf_eq]
      split
      · exact .retire
      · exact .retire)
    (hRet := .retire)
    (hReti := .retire)
    (hRetIf := fun cc => by
      rw [returnIf_eq]
      split
      · exact .retire
      · exact .retire)
    (hNone := .retire)
    (hIME := fun _ => .retire)
    (hUnknown := fun _ _ h => nomatch h)
    i

/-- The instruction of a step, and the state it runs in: the second byte, where there is one, is the one that the bus
answers after the opcode. -/
theorem State.fetchInstr_cases (s : State) : ∃ b1 b2 bytes,
    s.fetchInstr = (decode3 (s.reply s.pc) b1 b2, s.fetched bytes) ∧
    (instrLength (s.reply s.pc) = 2 → b1 = s.replyAfter s.pc (s.pc + 1)) := by
  rw [s.fetchInstr_eq]
  dsimp only
  split
  · next len1 => exact ⟨_, _, _, rfl, fun len2 => absurd (len1.symm.trans len2) (by decide)⟩
  · split <;> exact ⟨_, _, _, rfl, fun _ => rfl⟩

/-- The fetches clear the accumulator and leave F, so a step keeps what its instruction keeps. -/
theorem step_keeps {s t : State} (next : step s = .next t) : t.extra = 0 ∧
    (s.f &&& 0x0F#8 = 0#8 → t.f &&& 0x0F#8 = 0#8) ∧ t.cycles % 4 = 0 ∧ 0 < t.cycles := by
  obtain ⟨b1, b2, bytes, fetch, -⟩ := s.fetchInstr_cases
  rw [step, fetch] at next
  obtain ⟨extra, flags, count, cycles, fours, positive⟩ := exec_keeps _ _ t next
  rw [show t.cycles = count from cycles]
  exact ⟨extra, flags, fours, positive⟩

/-! ## The obligations -/

/-- Settles O60: the record is the fetches' and the instruction's accesses, and the mirrored step has the same. -/
theorem stepIsAgnosticToTheBackend : Obligations.StepIsAgnosticToTheBackend := by
  unfold Obligations.StepIsAgnosticToTheBackend
  intro s t next
  obtain ⟨accesses, mirror⟩ := step_agrees next
  exact ⟨accesses.backend, fun other => accesses.mem.trans (Backend.storeAll_of_ne_mmu other s.mem t.bus), mirror⟩

/-- Settles O7: memory is the writes of the record on the old one, and every write keeps the form. -/
theorem stepKeepsInvariant : Obligations.StepKeepsInvariant := by
  unfold Obligations.StepKeepsInvariant
  rintro s t ⟨wf, low, -⟩ next
  obtain ⟨accesses, -⟩ := step_agrees next
  obtain ⟨extra, flags, -⟩ := step_keeps next
  exact ⟨accesses.mem ▸ s.backend.wf_storeAll wf t.bus, flags low, extra⟩

/-- Settles O14: memory is the writes of the record on the old one. -/
theorem stepChangesOnlyWhatItWrites : Obligations.StepChangesOnlyWhatItWrites := by
  unfold Obligations.StepChangesOnlyWhatItWrites
  intro s t x next changed
  obtain ⟨accesses, -⟩ := step_agrees next
  rw [State.peek, State.peek, accesses.mem] at changed
  exact s.backend.storeAll_changed t.bus changed

/-- Echo and Unusable are the two regions that the MMU answers 0xFF for, whatever it holds. -/
theorem State.peek_of_readsFF (s : State) {a : Word} (h : regionOf a.toNat ∈ [.echo, .unusable]) : s.peek a = 0xFF := by
  rw [State.peek, Memory.read, if_pos ((Region.mem_readsFF _).1 h)]

/-- Settles O15: ROM is no storing region, so no step changes its bytes (O14). -/
theorem stepsNeverChangeRomEchoUnusable : Obligations.StepsNeverChangeRomEchoUnusable := by
  unfold Obligations.StepsNeverChangeRomEchoUnusable
  intro s t next a
  refine ⟨fun rom => ?_, fun ff => ⟨s.peek_of_readsFF ff, t.peek_of_readsFF ff⟩⟩
  by_contra changed
  obtain ⟨-, -, stores⟩ := stepChangesOnlyWhatItWrites s t a next changed
  rw [regionOf_of_lt rom] at stores
  exact Bool.false_ne_true stores

end Sys2Proof.Machine
end

section
/-! PROOFS. The count of every step is the one of the cycle maps (40_dispatch.md R105 to R107): O11. -/

namespace Sys2Proof.Machine

/-! ## The count of one entry -/

/-- The meaning of `i` returns what the maps give the opcode `op` and the byte `n` after it, with the condition as F has
it. -/
def Counts (op n : Byte) (i : Instr) : Prop :=
  ∀ s t, exec i s = .next t → t.cycles = documentedCount op n (s.cond (.ofIndex (field op 3 2))) + s.extra

/-- An entry with one count. -/
theorem Counts.plain {op n : Byte} {i : Instr} {k : Nat}
    (meaning : ∀ s, ∃ u : State, exec i s = .next (u.retire k) ∧ u.extra = s.extra)
    (entry : primaryCycles op = always k := by rfl) (other : op ≠ 0xCB := by decide) : Counts op n i := by
  intro s t next
  obtain ⟨u, retires, hextra⟩ := meaning s
  rw [retires] at next
  cases next
  rw [documentedCount, entry, if_neg other, State.retire_cycles, hextra]
  exact congrArg (· + s.extra) (ite_self k).symm

/-- An entry with two counts: taken, the meaning adds `k` to its base. -/
theorem Counts.branch {op n : Byte} {i : Instr} {base k : Nat}
    (meaning : ∀ s, ∃ u : State,
      exec i s = .next ((if s.cond (.ofIndex (field op 3 2)) then u.addExtra k else s).retire base) ∧ u.extra = s.extra)
    (entry : primaryCycles op = (base, base + k) := by rfl) (other : op ≠ 0xCB := by decide) : Counts op n i := by
  intro s t next
  obtain ⟨u, branches, hextra⟩ := meaning s
  rw [branches, State.branch_eq] at next
  rw [documentedCount, entry, if_neg other]
  split at next <;> cases next
  · rw [State.retire_cycles, hextra, if_pos ‹_›]
    rfl
  · rw [State.retire_cycles, if_neg ‹_›]
    rfl

/-- An entry of an unknown opcode: its meaning answers no next state. -/
theorem Counts.unknown (op n : Byte) (byte : Byte) : Counts op n (.unknown byte) := nofun

/-- The entry of the prefix, 0, and that of the CB table (R106). -/
theorem Counts.cb (cb : Byte) : Counts 0xCB cb (decodeCb cb) := by
  intro s t next
  obtain ⟨u, completes, count, -⟩ := cbDispatch_completes cb s
  rw [← cbDispatch_eq, completes] at next
  cases next
  rw [count, documentedCount, if_pos rfl]
  split <;> exact congrArg (· + s.extra) (Nat.zero_add _).symm

/-! ## The rows -/

/-- Rows 0x00 to 0x3F, entry by entry: the four JR cc branch. -/
theorem decodeX0_counts {y z : Nat} (hy : y < 8) (hz : z < 8) (n : Byte) (nn : Word) :
    let op := BitVec.ofNat 8 (8 * y + z)
    Counts op n (resolvePrefix (decodeX0 op n nn y z)) := by
  match z with
  | 0 =>
    match y with
    | 4 | 5 | 6 | 7 => exact .branch fun _ => ⟨_, rfl, rfl⟩
    | 0 | 1 | 2 | 3 => exact .plain fun _ => ⟨_, rfl, rfl⟩
  | 1 | 2 | 3 | 4 | 5 | 6 | 7 => interval_cases y <;> exact .plain fun _ => ⟨_, rfl, rfl⟩

/-- Rows 0x40 to 0x7F, entry by entry. -/
theorem ofLdRR_counts {y z : Nat} (hy : y < 8) (hz : z < 8) (n : Byte) :
    Counts (BitVec.ofNat 8 (64 * 1 + 8 * y + z)) n (.ofLdRR (.ofIndex y) (.ofIndex z)) := by
  interval_cases y <;> interval_cases z <;> exact .plain fun _ => ⟨_, rfl, rfl⟩

/-- Rows 0x80 to 0xBF, entry by entry. -/
theorem ofAluR_counts {y z : Nat} (hy : y < 8) (hz : z < 8) (n : Byte) :
    Counts (BitVec.ofNat 8 (64 * 2 + 8 * y + z)) n (.ofAluR (.ofIndex y) (.ofIndex z)) := by
  interval_cases y <;> interval_cases z <;> exact .plain fun _ => ⟨_, rfl, rfl⟩

/-- Rows 0xC0 to 0xFF, entry by entry: RET cc, JP cc and CALL cc branch, and eleven entries are unknown. -/
theorem decodeX3_counts {y z : Nat} (hy : y < 8) (hz : z < 8) (n : Byte) (nn : Word) :
    let op := BitVec.ofNat 8 (64 * 3 + 8 * y + z)
    Counts op n (resolvePrefix (decodeX3 op n nn y z)) := by
  match z with
  | 0 =>
    match y with
    | 0 | 1 | 2 | 3 => exact .branch fun s => ⟨_, rfl, s.popPC_extra⟩
    | 4 | 5 | 6 | 7 => exact .plain fun _ => ⟨_, rfl, rfl⟩
  | 1 => interval_cases y <;> exact .plain fun s => ⟨_, rfl, by simp⟩
  | 2 =>
    match y with
    | 0 | 1 | 2 | 3 => exact .branch fun _ => ⟨_, rfl, rfl⟩
    | 4 | 5 | 6 | 7 => exact .plain fun _ => ⟨_, rfl, rfl⟩
  | 3 =>
    match y with
    | 1 => exact .cb n
    | 2 | 3 | 4 | 5 => exact .unknown _ n _
    | 0 | 6 | 7 => exact .plain fun _ => ⟨_, rfl, rfl⟩
  | 4 =>
    match y with
    | 0 | 1 | 2 | 3 => exact .branch fun s => ⟨_, rfl, s.callTo_extra _⟩
    | 4 | 5 | 6 | 7 => exact .unknown _ n _
  | 5 =>
    match y with
    | 3 | 5 | 7 => exact .unknown _ n _
    | 0 | 1 | 2 | 4 | 6 => exact .plain fun s => ⟨_, rfl, by simp⟩
  | 6 => interval_cases y <;> exact .plain fun _ => ⟨_, rfl, rfl⟩
  | 7 => interval_cases y <;> exact .plain fun s => ⟨_, rfl, s.callTo_extra _⟩

/-- The decoder's instruction for an opcode returns what the maps give that opcode. -/
theorem decode3_counts (op b1 b2 : Byte) : Counts op b1 (decode3 op b1 b2) := by
  have byte := byte_eq_fields op
  have hx := field_lt op 6 2
  have hy := field_lt op 3 3
  have hz := field_lt op 0 3
  unfold decode3 decodePrimary
  generalize field op 6 2 = x, field op 3 3 = y, field op 0 3 = z at *
  subst byte
  match x with
  | 0 => simpa only [Nat.mul_zero, Nat.zero_add] using decodeX0_counts hy hz b1 (join b2 b1)
  | 1 =>
    simpa only [resolvePrefix_of_wellFormed (ofLdRR_wellFormed _ _)] using ofLdRR_counts hy hz b1
  | 2 =>
    simpa only [resolvePrefix_of_wellFormed (ofAluR_wellFormed _ _)] using ofAluR_counts hy hz b1
  | 3 => exact decodeX3_counts hy hz b1 (join b2 b1)
  | _ + 4 => omega

/-! ## The obligation -/

/-- The second byte of the CB prefix is fetched (R94). -/
theorem documentedCount_congr {op b b' : Byte} (h : instrLength op = 2 → b = b') (taken : Bool) :
    documentedCount op b taken = documentedCount op b' taken := by
  by_cases cb : op = 0xCB
  · rw [h (cb ▸ rfl)]
  · rw [documentedCount, documentedCount, if_neg cb, if_neg cb]

/-- Settles O11: the decoder's entry for the opcode fetched returns what the maps give it. -/
theorem stepReturnsDocumentedCount : Obligations.StepReturnsDocumentedCount := by
  unfold Obligations.StepReturnsDocumentedCount
  intro s t next
  obtain ⟨-, -, fours, positive⟩ := step_keeps next
  refine ⟨?_, fours, positive⟩
  obtain ⟨b1, b2, bytes, fetch, second⟩ := s.fetchInstr_cases
  rw [step, fetch] at next
  rw [← documentedCount_congr second]
  exact decode3_counts _ b1 b2 _ t next

end Sys2Proof.Machine
end

section
/-! PROOFS. Construction, and which instruction a step runs (10_state.md R44, 20_memory.md R59, 40_dispatch.md R100 to
R108, 60_exceptions.md R213 to R220): O5, O6, O8 to O10 and O59. -/

namespace Sys2Proof.Machine

/-! ## Construction -/

/-- Settles O8: the image's memory has the form, a substituted bus has an empty one, and F is masked. -/
theorem constructionMeetsInvariant : Obligations.ConstructionMeetsInvariant := by
  unfold Obligations.ConstructionMeetsInvariant
  have constructed (romImage : List Byte) (init : Config.InitRegs) (bus : Backend) :
      (State.construct romImage init bus).Inv := by
    refine ⟨?_, and_F0_low init.f, rfl⟩
    cases bus with
    | mmu => exact Memory.wf_loadRom 0 romImage
    | substituted replies past => rfl
  exact ⟨constructed [] Config.postBoot .mmu, constructed⟩

/-- Settles O9: construction copies the registers it is given, and the mask leaves 0xB0 as it is. -/
theorem postBootRegisters : Obligations.PostBootRegisters := by
  unfold Obligations.PostBootRegisters
  have masked : (0xB0 : Byte) &&& 0xF0 = 0xB0 := by decide
  exact ⟨fun _ _ _ _ _ _ _ _ => ⟨rfl, masked, rfl, rfl, rfl, rfl, rfl, rfl, rfl, rfl, rfl, rfl, rfl, rfl⟩,
    0, 0, 0, 0, 0, 0, rfl⟩

/-- Settles O10: outside Echo and Unusable the MMU reads what the loaded image holds. -/
theorem constructionLoadsRomImage : Obligations.ConstructionLoadsRomImage := by
  unfold Obligations.ConstructionLoadsRomImage
  intro romImage init a
  have loaded : (State.construct romImage init).reply a =
      if (regionOf a.toNat).readsFF then 0xFF
      else if a.toNat < 0x8000 then romImage.getD a.toNat 0x00 else 0x00 := by
    change (Memory.loadRom 0 romImage).read a = _
    rw [Memory.read, Memory.get_loadRom]
    simp only [Nat.zero_le, true_and, Nat.sub_zero]
  rw [loaded]
  by_cases rom : a.toNat < 0x8000
  · rw [regionOf_of_lt rom, if_pos rom, if_pos rom]
    exact if_neg Bool.false_ne_true
  · rw [if_neg rom, if_neg rom]

/-! ## Stops -/

/-- Settles O59: the arm of the unknown opcodes is `raiseUnknownOpcode`. -/
theorem unknownOpcodeFaults : Obligations.UnknownOpcodeFaults := by
  unfold Obligations.UnknownOpcodeFaults
  exact fun _ _ => rfl

/-- Every other arm ends in a next state. -/
theorem exec_completes {i : Instr} (known : ∀ op, i ≠ .unknown op) (s : State) : ∃ t, exec i s = .next t := by
  cases i with
  | unknown op => exact absurd rfl (known op)
  | cbPrefix cb =>
    obtain ⟨t, next, -⟩ := cbDispatch_completes cb s
    exact ⟨t, next⟩
  | _ => exact ⟨_, rfl⟩

/-- An opcode decodes to `unknown` only as one of the eleven bytes of R91. -/
theorem mem_of_decode3_eq_unknown {op b1 b2 byte : Byte} (h : decode3 op b1 b2 = .unknown byte) :
    op ∈ unknownOpcodes := by
  obtain ⟨wf, encoded⟩ := decode3_reads op b1 b2
  rw [h] at wf encoded
  have same : byte = op := by
    obtain len | len | len := instrLength_cases op
    all_goals
      rw [len] at encoded
      exact (List.cons.inj encoded).1
  simpa [Instr.WellFormed, same] using wf

/-- The eleven bytes are one byte long, and decode to `unknown`. -/
theorem decode3_unknown {op : Byte} (h : op ∈ unknownOpcodes) :
    instrLength op = 1 ∧ decode3 op 0 0 = .unknown op := by
  revert op
  decide

/-- Settles O6: the decoder answers `unknown` for the eleven bytes alone, and no other arm stops; the fault's address is
PC again, since one byte was fetched. -/
theorem onlyUnknownOpcodesStopAStep : Obligations.OnlyUnknownOpcodesStopAStep := by
  unfold Obligations.OnlyUnknownOpcodesStopAStep
  intro s
  constructor
  · intro unknown
    obtain ⟨len, reads⟩ := decode3_unknown unknown
    have fetch : s.fetchInstr = (.unknown (s.reply s.pc), s.fetched [s.reply s.pc]) := by
      rw [s.fetchInstr_eq]
      simp only [len, reads, if_true]
    rw [step, fetch]
    exact congrArg (fun pc => Host.Outcome.fault (Fault.unknownOpcode (s.reply s.pc) pc)) (BitVec.add_sub_cancel s.pc 1)
  · intro known
    obtain ⟨b1, b2, bytes, fetch, -⟩ := s.fetchInstr_cases
    rw [step, fetch]
    exact exec_completes (fun _ h => known (mem_of_decode3_eq_unknown h)) _

/-! ## The step -/

/-- Settles O5: the bus answers as many bytes as the first of them asks for, and they decode to the instruction. -/
theorem stepRunsDecodedInstruction : Obligations.StepRunsDecodedInstruction := by
  unfold Obligations.StepRunsDecodedInstruction
  intro i s wf holds
  obtain ⟨len, reads⟩ := Laws.RoundTrip.statement i wf
  suffices fetch : s.fetchInstr = (i, s.fetched (encode i)) by rw [step, fetch]
  rw [s.fetchInstr_eq]
  generalize encode i = bytes at *
  match bytes with
  | [] => exact absurd len (by decide)
  | [op] =>
    obtain ⟨rfl, -⟩ := holds
    simp [← show 1 = instrLength (s.reply s.pc) from len, ← reads]
  | [op, b1] =>
    obtain ⟨rfl, rfl, -⟩ := holds
    simp [← show 2 = instrLength (s.reply s.pc) from len, ← reads, State.replyAfter]
  | [op, b1, b2] =>
    obtain ⟨rfl, rfl, third, -⟩ := holds
    rw [show s.pc + 1 + 1 = s.pc + 2 from BitVec.add_assoc s.pc 1 1] at third
    subst third
    simp [← show 3 = instrLength (s.reply s.pc) from len, ← reads, State.replyAfter]
  | op :: b1 :: b2 :: b3 :: more =>
    have long : more.length + 4 = instrLength op := len
    have := instrLength_cases op
    omega

end Sys2Proof.Machine
end

section
/-! PROOFS. The interrupt-enable latch (45_latches.md R206, R207, R210, R211): O19 and O20. -/

namespace Sys2Proof.Machine

/-! ## Moving IME past a meaning -/

/-- The answer, with this IME in its state. -/
def withIME (v : Bool) (r : Result) : Result :=
  match r with
  | .next t => .next (t.setIME v)
  | .fault f => .fault f
  | .refused x => .refused x

/-- Neither arm of a branch reads or writes IME, and nor does its condition. -/
theorem withIME_branch (v c : Bool) (s taken : State) (k base : Nat) :
    (.next ((if c then (taken.setIME v).addExtra k else s.setIME v).retire base) : Result) =
      withIME v (.next ((if c then taken.addExtra k else s).retire base)) := by
  cases c <;> rfl

section
variable (r : R8) (k : Fin 8) (s : State) (v : Bool)

theorem cbShift_setIME (t : ShiftOp) : cbShift t r (s.setIME v) = withIME v (cbShift t r s) := by cases r <;> rfl

theorem cbBit_setIME : cbBit k r (s.setIME v) = withIME v (cbBit k r s) := by cases r <;> rfl

theorem cbRes_setIME : cbRes k r (s.setIME v) = withIME v (cbRes k r s) := by cases r <;> rfl

theorem cbSet_setIME : cbSet k r (s.setIME v) = withIME v (cbSet k r s) := by cases r <;> rfl

theorem cbDispatch_setIME (cb : Byte) : cbDispatch cb (s.setIME v) = withIME v (cbDispatch cb s) := by
  unfold cbDispatch
  generalize field cb 6 2 = x
  match x with
  | 0 => exact cbShift_setIME _ s v _
  | 1 => exact cbBit_setIME _ _ s v
  | 2 => exact cbRes_setIME _ _ s v
  | _ + 3 => exact cbSet_setIME _ _ s v

end

/-- No meaning reads IME, and three alone write it (R210, R211): past every other meaning it can be moved. A row without
a condition and without an r8 operand of its own computes to the same record on both sides. -/
theorem exec_setIME {i : Instr} (hdi : i ≠ .di) (hei : i ≠ .ei) (hreti : i ≠ .reti) (s : State) (v : Bool) :
    exec i (s.setIME v) = withIME v (exec i s) := by
  cases i
  case di => exact absurd rfl hdi
  case ei => exact absurd rfl hei
  case reti => exact absurd rfl hreti
  case jr_nz_n n | jr_z_n n | jr_nc_n n | jr_c_n n => exact withIME_branch v _ s (s.setPC (s.pc + sext16 n)) 4 8
  case jp_nz_nn nn | jp_z_nn nn | jp_nc_nn nn | jp_c_nn nn => exact withIME_branch v _ s (s.setPC nn) 4 12
  case call_nz_nn nn | call_z_nn nn | call_nc_nn nn | call_c_nn nn => exact withIME_branch v _ s (s.callTo nn) 12 12
  case ret_nz | ret_z | ret_nc | ret_c => exact withIME_branch v _ s s.popPC 12 8
  case rlc r | rrc r | rl r | rr r | sla r | sra r | swap r | srl r => exact cbShift_setIME r s v _
  case bit k r => exact cbBit_setIME r k s v
  case res k r => exact cbRes_setIME r k s v
  case set k r => exact cbSet_setIME r k s v
  case cbPrefix cb => exact cbDispatch_setIME s v cb
  all_goals rfl

/-- The fetches leave IME where it is. -/
theorem State.fetchInstr_setIME (s : State) (v : Bool) :
    (s.setIME v).fetchInstr = (s.fetchInstr.1, s.fetchInstr.2.setIME v) := by
  have op : (s.setIME v).beginStep.fetch8.1 = s.beginStep.fetch8.1 := rfl
  obtain len | len | len := instrLength_cases s.beginStep.fetch8.1
  all_goals
    simp only [State.fetchInstr, op, len]
    rfl

/-! ## The obligations -/

/-- Settles O19: past any other instruction the IME of its own state can be moved. -/
theorem onlyDiEiRetiWriteIME : Obligations.OnlyDiEiRetiWriteIME := by
  unfold Obligations.OnlyDiEiRetiWriteIME
  intro i s t next
  refine ⟨?_, ?_, fun hdi hei hreti => ?_⟩
  · rintro rfl
    cases next
    rfl
  · rintro (rfl | rfl) <;> cases next <;> rfl
  · have moved := exec_setIME hdi hei hreti s s.ime
    rw [show s.setIME s.ime = s from rfl, next, withIME] at moved
    have same := Host.Outcome.next.inj moved
    calc t.ime = (t.setIME s.ime).ime := congrArg State.ime same
      _ = s.ime := rfl

/-- Settles O20: DI, EI and RETI write IME without a look at it, and past any other instruction it can be moved. -/
theorem nothingDependsOnIME : Obligations.NothingDependsOnIME := by
  unfold Obligations.NothingDependsOnIME
  intro s t v next
  rw [step] at next
  rw [step, State.fetchInstr_setIME]
  generalize s.fetchInstr = f at *
  by_cases writes : f.1 = .di ∨ f.1 = .ei ∨ f.1 = .reti
  · refine ⟨t, ?_, rfl⟩
    obtain h | h | h := writes <;> rw [h] at next ⊢ <;> exact next
  · simp only [not_or] at writes
    obtain ⟨hdi, hei, hreti⟩ := writes
    exact ⟨t.setIME v, by rw [exec_setIME hdi hei hreti, next, withIME], rfl⟩

end Sys2Proof.Machine
end

section
/-! PROOFS. The pairs and the stack (10_state.md R29 to R34, 20_memory.md R61 to R64, 44_control.md R201): O16 to O18.
-/

namespace Sys2Proof.Machine

/-! ## The stack -/

/-- With the MMU, a pop gives the two bytes that memory holds at SP. -/
theorem State.pop16_mmu (s : State) (mmu : s.backend = .mmu) :
    s.pop16.1 = join (s.peek (s.sp + 1)) (s.peek s.sp) := by
  rw [State.pop16_fst, s.replyAfter_mmu _ _ mmu, s.reply_mmu _ mmu]

theorem State.sp_sub_two_add_one (x : Word) : x - 2 + 1 = x - 1 := by bv_omega

/-- In storing regions of the MMU the word pushed is the word popped. -/
theorem State.push16_pop16 (s : State) (v : Word) (mmu : s.backend = .mmu)
    (high : (regionOf (s.sp - 1).toNat).stores = true) (low : (regionOf (s.sp - 2).toNat).stores = true) :
    (s.push16 v).pop16.1 = v ∧ (s.push16 v).pop16.2.sp = s.sp := by
  have pushed := s.push16_bytes v
  simp only [State.afterWrite, mmu, high, low, and_self, if_true] at pushed
  obtain ⟨hi, lo⟩ := pushed
  constructor
  · rw [State.pop16_mmu _ (by simp [mmu]), State.push16_sp, State.sp_sub_two_add_one, hi, lo, join_hi8_lo8]
  · rw [State.pop16_sp, State.push16_sp, BitVec.sub_add_cancel]

/-- Settles O16: the word popped is read from the two bytes that the push stored. -/
theorem pushThenPopRestores : Obligations.PushThenPopRestores := by
  unfold Obligations.PushThenPopRestores
  exact State.push16_pop16

/-- A call, then a return from where it arrives: the pop gives the word that the call pushed, PC. -/
theorem call_returns (target : Word) (k : Nat) (s : State) (mmu : s.backend = .mmu)
    (high : (regionOf (s.sp - 1).toNat).stores = true) (low : (regionOf (s.sp - 2).toNat).stores = true) :
    ∃ s1 s2, call target k s = .next s1 ∧ exec .ret s1 = .next s2 ∧ s2.pc = s.pc ∧ s2.sp = s.sp := by
  obtain ⟨pc, sp⟩ := s.push16_pop16 s.pc mmu high low
  exact ⟨_, _, rfl, rfl, pc, sp⟩

/-- Settles O17: both forms are `call`. -/
theorem callThenRetReturns : Obligations.CallThenRetReturns := by
  unfold Obligations.CallThenRetReturns
  intro s nn t i form mmu high low
  simp only [List.mem_cons, List.not_mem_nil, or_false] at form
  obtain rfl | rfl := form
  · exact call_returns nn 24 s mmu high low
  · rw [exec_ofRst]
    exact call_returns (rstTarget t.val) 16 s mmu high low

/-! ## The pairs -/

/-- Writing AF and reading it clears bits 3..0, those of F's low nibble. -/
theorem State.readR16s_writeR16s_af (s : State) (v : Word) : (s.writeR16s .af v).readR16s .af = v &&& 0xFFF0 := by
  calc join (hi8 v) (lo8 v &&& 0xF0) = (hi8 v &&& 0xFF) ++ (lo8 v &&& 0xF0) :=
        congrArg (join · _) (BitVec.and_allOnes (x := hi8 v)).symm
    _ = join (hi8 v) (lo8 v) &&& 0xFFF0 := BitVec.and_append.symm
    _ = v &&& 0xFFF0 := by rw [join_hi8_lo8]

/-- Settles O18: a pair is the concatenation of its registers by definition, and a write of it changes them alone. -/
theorem pairsAreViews : Obligations.PairsAreViews := by
  unfold Obligations.PairsAreViews
  intro s p q v
  refine ⟨⟨rfl, rfl, rfl, rfl⟩, s.readR16_writeR16 p v, s.writeR16_frame p v, ?_, s.writeR16s_frame q v⟩
  split
  · next h => rw [h, s.readR16s_writeR16s_af]
  · next h => exact s.readR16s_writeR16s q v h

end Sys2Proof.Machine
end

section
/-! PROOFS. The stores and loads that move HL, and LD (nn),SP (41_loads.md R121 to R124, R132): O25, O26 and O28. -/

namespace Sys2Proof.Machine

/-! ## The words next to a word -/

/-- One up, modulo 65536 (D4). -/
theorem word_add_one_toNat (x : Word) : (x + 1).toNat = (x.toNat + 1) % 65536 := BitVec.toNat_add x 1

/-- One down, modulo 65536 (D4). -/
theorem word_add_neg_one_toNat (x : Word) : (x + -1).toNat = (x.toNat + 65535) % 65536 := by bv_omega

theorem word_sub_one_toNat (x : Word) : (x - 1).toNat = (x.toNat + 65535) % 65536 := by bv_omega

/-! ## The shared operations -/

theorem storeAStep_stores (delta : Word) (s : State) :
    ∃ t, storeAStep delta s = .next t ∧ t.hl = s.hl + delta ∧ t.peek s.hl = s.afterWrite s.hl s.a ∧
      Frame s t [.h, .l] [s.hl] ∧ Returns s t 8 [.write s.hl s.a] :=
  ⟨_, rfl, (s.memWrite s.hl s.a).setHL_hl _, s.memWrite_peek_self s.hl s.a,
    ((s.memWrite_frame s.hl s.a).trans ((s.memWrite s.hl s.a).setHL_frame _)).retire 8, returns_retire 8 rfl rfl rfl⟩

theorem loadAStep_loads (delta : Word) (s : State) :
    ∃ t, loadAStep delta s = .next t ∧ t.a = s.reply s.hl ∧ t.hl = s.hl + delta ∧ Frame s t [.a, .h, .l] [] ∧
      Returns s t 8 [.read s.hl (s.reply s.hl)] :=
  ⟨_, rfl, rfl, ((s.memRead s.hl).2.setA (s.reply s.hl)).setHL_hl _,
    (((s.memRead_frame s.hl).trans ((s.memRead s.hl).2.setA_frame _)).trans (State.setHL_frame _ _)).retire 8,
    returns_retire 8 rfl rfl rfl⟩

/-- The second write leaves the byte of the first, at another address, as it is. -/
theorem storeSP_stores (nn : Word) (s : State) :
    ∃ t, storeSP nn s = .next t ∧ t.peek nn = s.afterWrite nn (lo8 s.sp) ∧
      t.peek (nn + 1) = s.afterWrite (nn + 1) (hi8 s.sp) ∧ Frame s t [] [nn, nn + 1] ∧
      Returns s t 20 [.write nn (lo8 s.sp), .write (nn + 1) (hi8 s.sp)] := by
  have apart : nn ≠ nn + 1 := by bv_omega
  refine ⟨_, rfl, ?_, ?_,
    ((s.memWrite_frame nn (lo8 s.sp)).trans ((s.memWrite nn (lo8 s.sp)).memWrite_frame (nn + 1) (hi8 s.sp))).retire 20,
    returns_retire 20 rfl ?_ ?_⟩
  · exact (State.memWrite_peek_of_ne _ _ _ _ apart).trans (s.memWrite_peek_self nn (lo8 s.sp))
  · exact (State.memWrite_peek_self _ _ _).trans (by simp [State.afterWrite])
  · simp
  · simp

/-! ## The obligations -/

/-- Settles O25: both forms are `storeAStep`, with the steps 1 and -1. -/
theorem ldiLddStoreThenMoveHL : Obligations.LdiLddStoreThenMoveHL := by
  unfold Obligations.LdiLddStoreThenMoveHL
  intro s i bytes hl' form
  simp only [List.mem_cons, List.not_mem_nil, or_false, Prod.mk.injEq] at form
  obtain ⟨rfl, rfl, rfl⟩ | ⟨rfl, rfl, down⟩ := form
  · obtain ⟨t, next, hl, rest⟩ := storeAStep_stores 1 s
    exact ⟨rfl, t, next, (congrArg BitVec.toNat hl).trans (word_add_one_toNat s.hl), rest⟩
  · obtain ⟨t, next, hl, rest⟩ := storeAStep_stores (-1) s
    exact ⟨rfl, t, next, by rw [down, hl, word_add_neg_one_toNat s.hl], rest⟩

/-- Settles O26: both forms are `loadAStep`, with the steps 1 and -1. -/
theorem ldiLddLoadThenMoveHL : Obligations.LdiLddLoadThenMoveHL := by
  unfold Obligations.LdiLddLoadThenMoveHL
  intro s i bytes hl' form
  simp only [List.mem_cons, List.not_mem_nil, or_false, Prod.mk.injEq] at form
  obtain ⟨rfl, rfl, rfl⟩ | ⟨rfl, rfl, down⟩ := form
  · obtain ⟨t, next, a, hl, rest⟩ := loadAStep_loads 1 s
    exact ⟨rfl, t, next, a, (congrArg BitVec.toNat hl).trans (word_add_one_toNat s.hl), rest⟩
  · obtain ⟨t, next, a, hl, rest⟩ := loadAStep_loads (-1) s
    exact ⟨rfl, t, next, a, by rw [down, hl, word_add_neg_one_toNat s.hl], rest⟩

/-- Settles O28: LD (nn),SP is `storeSP`. -/
theorem ldNnSPStoresLittleEndian : Obligations.LdNnSPStoresLittleEndian := by
  unfold Obligations.LdNnSPStoresLittleEndian
  exact fun nn s => ⟨rfl, storeSP_stores nn s⟩

end Sys2Proof.Machine
end

section
/-! PROOFS. INC, DEC and DAA (42_alu.md R157 to R160, R163): O36 to O38 and O41. -/

namespace Sys2Proof.Machine

/-! ## Read, modify, write -/

/-- An r8 operand read and written back, with all four flags (R157, R158, R177). -/
theorem State.modify_with_flags (s : State) (r : R8) (v : Byte) (z n h c : Bool) (k : Nat) :
    let t := (((s.readR8 r).2.writeR8 r v).setFlags z n h c).retire k
    Written s t r v ∧ FlagsAre t z n h c ∧ Frame s t (.f :: r.regs) (s.addrs r) ∧
      Returns s t k (s.reads r ++ s.writes r v) := by
  obtain ⟨written, frame⟩ := s.readWriteR8 r r v
  have flagged := frame.trans (((s.readR8 r).2.writeR8 r v).setFlags_frame z n h c)
  exact ⟨written.congr rfl Iff.rfl rfl (by simp) rfl, setFlags_flagsAre ((s.readR8 r).2.writeR8 r v) z n h c,
    (flagged.mono (by simp) (by simp)).retire k, returns_retire k (by simp) (by simp) (by simp)⟩

theorem incR8_increments (r : R8) (s : State) :
    ∃ t, incR8 r s = .next t ∧ Written s t r (s.r8 r + 1) ∧
      FlagsAre t (decide (s.r8 r = 0xFF)) false (decide ((s.r8 r).toNat % 16 = 0xF)) s.cf ∧
      Frame s t (.f :: r.regs) (s.addrs r) ∧ Returns s t (costR8 r 4 12) (s.reads r ++ s.writes r (s.r8 r + 1)) := by
  have zero : (s.r8 r + 1 == 0) = decide (s.r8 r = 0xFF) := decide_eq_decide.2 (by bv_omega)
  have half : (nib (s.r8 r) == 0xF) = decide ((s.r8 r).toNat % 16 = 0xF) := rfl
  rw [← zero, ← half]
  exact ⟨_, by rw [incR8, State.readR8_fst]; rfl, s.modify_with_flags r _ _ _ _ _ _⟩

theorem decR8_decrements (r : R8) (s : State) :
    ∃ t, decR8 r s = .next t ∧ Written s t r (s.r8 r - 1) ∧
      FlagsAre t (decide (s.r8 r = 0x01)) true (decide ((s.r8 r).toNat % 16 = 0)) s.cf ∧
      Frame s t (.f :: r.regs) (s.addrs r) ∧ Returns s t (costR8 r 4 12) (s.reads r ++ s.writes r (s.r8 r - 1)) := by
  have zero : (s.r8 r - 1 == 0) = decide (s.r8 r = 0x01) := decide_eq_decide.2 (by bv_omega)
  have half : (nib (s.r8 r) == 0) = decide ((s.r8 r).toNat % 16 = 0) := rfl
  rw [← zero, ← half]
  exact ⟨_, by rw [decR8, State.readR8_fst]; rfl, s.modify_with_flags r _ _ _ _ _ _⟩

/-- A pair is written and nothing else, whatever is written to it (R159, R160). -/
theorem State.writeR16_retire_returns (s : State) (p : R16) (v : Word) (k : Nat) :
    ((s.writeR16 p v).retire k).readR16 p = v ∧ Frame s ((s.writeR16 p v).retire k) p.regs [] ∧
      Returns s ((s.writeR16 p v).retire k) k [] :=
  ⟨by simp, (s.writeR16_frame p v).retire k,
    returns_retire_nil k (s.writeR16_extra p v) (s.writeR16_bus p v) (s.writeR16_backend p v)⟩

/-! ## DAA -/

/-- The two corrections are added where N is clear, and C says whether the high one was (R163). -/
theorem daa_add (a : Byte) (h c : Bool) {low high : Nat} (hlow : low = if h = true ∨ a.toNat % 16 > 9 then 0x06 else 0)
    (hhigh : high = if c = true ∨ a.toNat > 0x99 then 0x60 else 0) :
    (daa a false h c).1.toNat = (a.toNat + low + high) % 256 ∧ (daa a false h c).2 = decide (high = 0x60) := by
  have low' : low = if h || decide (nib a > 9) then 0x06 else 0 := by simpa [nib] using hlow
  have high' : high = if c || decide (a.toNat > 0x99) then 0x60 else 0 := by simpa using hhigh
  rw [low', high']
  simp only [daa, Bool.false_eq_true, if_false]
  generalize (h || decide (nib a > 9)) = lowMade, (c || decide (a.toNat > 0x99)) = highMade
  cases lowMade <;> cases highMade <;> simp [Nat.mod_eq_of_lt a.isLt]

/-- They are subtracted where N is set, by H and C alone, and C stays (R163, D10). -/
theorem daa_sub (a : Byte) (h c : Bool) {low high : Nat} (hlow : low = if h = true then 0x06 else 0)
    (hhigh : high = if c = true then 0x60 else 0) :
    ((daa a true h c).1.toNat : Int) = ((a.toNat : Int) - low - high) % 256 ∧ (daa a true h c).2 = c := by
  subst hlow hhigh
  refine ⟨?_, rfl⟩
  cases h <;> cases c <;> simp [daa] <;> omega

theorem adjustA_adjusts (s : State) :
    ∃ t, adjustA s = .next t ∧ t.a = (daa s.a s.nf s.hf s.cf).1 ∧
      FlagsAre t (decide (t.a = 0)) s.nf false (daa s.a s.nf s.hf s.cf).2 ∧ Frame s t [.a, .f] [] ∧ Returns s t 4 [] :=
  ⟨_, rfl, rfl, setFlags_flagsAre (s.setA (daa s.a s.nf s.hf s.cf).1) _ _ _ _,
    ((s.setA_frame _).trans ((s.setA _).setFlags_frame _ _ _ _)).retire 4, returns_retire_nil 4 rfl rfl rfl⟩

/-! ## The obligations -/

/-- Settles O36: INC r is `incR8`, a read of the operand and a write of the result and of the flags. -/
theorem incRegIncrements : Obligations.IncRegIncrements := by
  unfold Obligations.IncRegIncrements
  intro r s
  rw [exec_ofIncR]
  exact ⟨encode_ofIncR r, incR8_increments r s⟩

/-- Settles O37: DEC r is `decR8`, a read of the operand and a write of the result and of the flags. -/
theorem decRegDecrements : Obligations.DecRegDecrements := by
  unfold Obligations.DecRegDecrements
  intro r s
  rw [exec_ofDecR]
  exact ⟨encode_ofDecR r, decR8_decrements r s⟩

/-- Settles O38: both forms are a write of the pair. -/
theorem incDecPairTouchNoFlag : Obligations.IncDecPairTouchNoFlag := by
  unfold Obligations.IncDecPairTouchNoFlag
  intro p s i bytes v form
  simp only [List.mem_cons, List.not_mem_nil, or_false, Prod.mk.injEq] at form
  obtain ⟨rfl, rfl, rfl⟩ | ⟨rfl, rfl, down⟩ := form
  · obtain ⟨written, rest⟩ := s.writeR16_retire_returns p (s.readR16 p + 1) 8
    exact ⟨encode_ofIncRR p, _, exec_ofIncRR p s,
      (congrArg BitVec.toNat written).trans (word_add_one_toNat (s.readR16 p)), rest⟩
  · obtain ⟨written, rest⟩ := s.writeR16_retire_returns p (s.readR16 p - 1) 8
    exact ⟨encode_ofDecRR p, _, exec_ofDecRR p s,
      by rw [down, written, word_sub_one_toNat (s.readR16 p)], rest⟩

/-- Settles O41: DAA is `adjustA`, with the corrections of `daa` for the N that F has. -/
theorem daaAdjusts : Obligations.DaaAdjusts := by
  unfold Obligations.DaaAdjusts
  intro s
  obtain ⟨t, next, a, flags, rest⟩ := adjustA_adjusts s
  refine ⟨rfl, t, next, fun clear low high hlow hhigh => ?_, fun set low high hlow hhigh => ?_, rest⟩
  · rw [clear] at a flags
    obtain ⟨sum, carry⟩ := daa_add s.a s.hf s.cf hlow hhigh
    exact ⟨a ▸ sum, carry ▸ flags⟩
  · rw [set] at a flags
    obtain ⟨difference, carry⟩ := daa_sub s.a s.hf s.cf hlow hhigh
    exact ⟨a ▸ difference, carry ▸ flags⟩

end Sys2Proof.Machine
end

section
/-! PROOFS. Rotates, shifts, RES and SET (43_rotate_shift_bit.md R170 to R188): O43, O44 and O46. -/

namespace Sys2Proof.Machine

/-! ## The shift unit in numbers -/

/-- The result of R171 for the byte `v` and the carry `cin`, as a number (D8). -/
def shiftNat (t : ShiftOp) (v : Nat) (cin : Bool) : Nat :=
  match t with
  | .rlc => (2 * v) % 256 + v / 128
  | .rrc => v / 2 + 128 * (v % 2)
  | .rl => (2 * v) % 256 + cin.toNat
  | .rr => v / 2 + 128 * cin.toNat
  | .sla => (2 * v) % 256
  | .sra => v / 2 + 128 * (v / 128)
  | .swap => 16 * (v % 16) + v / 16
  | .srl => v / 2

theorem shift_toNat (t : ShiftOp) (v : Byte) (cin : Bool) : (shift t v cin).1.toNat = shiftNat t v.toNat cin := by
  cases t <;> revert v cin <;> decide

theorem shiftNat_lt (t : ShiftOp) (v : Byte) (cin : Bool) : shiftNat t v.toNat cin < 256 :=
  shift_toNat t v cin ▸ (shift t v cin).1.isLt

theorem shift_eq_ofNat (t : ShiftOp) (v : Byte) (cin : Bool) :
    (shift t v cin).1 = BitVec.ofNat 8 (shiftNat t v.toNat cin) := by
  rw [← shift_toNat, BitVec.ofNat_toNat, BitVec.setWidth_eq]

/-! ## The shared operations -/

theorem rotateA_rotates (t : ShiftOp) (s : State) :
    ∃ u, rotateA t s = .next u ∧ u.a.toNat = shiftNat t s.a.toNat s.cf ∧
      FlagsAre u false false false (shift t s.a s.cf).2 ∧ Frame s u [.a, .f] [] ∧ Returns s u 4 [] :=
  ⟨_, rfl, shift_toNat t s.a s.cf, setFlags_flagsAre (s.setA (shift t s.a s.cf).1) _ _ _ _,
    ((s.setA_frame _).trans ((s.setA _).setFlags_frame _ _ _ _)).retire 4, returns_retire_nil 4 rfl rfl rfl⟩

/-- Z is the result's: a zero number below 256 is a zero byte. -/
theorem cbShift_shifts (t : ShiftOp) (r : R8) (s : State) (v : Nat) (hv : v = shiftNat t (s.r8 r).toNat s.cf) :
    ∃ u, cbShift t r s = .next u ∧ v < 256 ∧ Written s u r (BitVec.ofNat 8 v) ∧
      FlagsAre u (decide (v = 0)) false false (shift t (s.r8 r) s.cf).2 ∧ Frame s u (.f :: r.regs) (s.addrs r) ∧
      Returns s u (costR8 r 8 16) (s.reads r ++ s.writes r (BitVec.ofNat 8 v)) := by
  have bound : v < 256 := hv ▸ shiftNat_lt t (s.r8 r) s.cf
  have result : (shift t (s.r8 r) s.cf).1 = BitVec.ofNat 8 v := hv ▸ shift_eq_ofNat t (s.r8 r) s.cf
  have zero : (BitVec.ofNat 8 v == 0) = decide (v = 0) := decide_eq_decide.2 (by bv_omega)
  rw [← zero]
  refine ⟨_, ?_, bound, s.modify_with_flags r _ _ _ _ _ _⟩
  rw [cbShift, State.addExtra_retire_zero, State.readR8_fst, result]

/-- An r8 operand read and written back, and no flag (R187, R188). -/
theorem State.modify (s : State) (r : R8) (v : Byte) (k : Nat) :
    let t := (((s.readR8 r).2.writeR8 r v).addExtra k).retire 0
    Written s t r v ∧ Frame s t r.regs (s.addrs r) ∧ Returns s t k (s.reads r ++ s.writes r v) := by
  obtain ⟨written, frame⟩ := s.readWriteR8 r r v
  rw [State.addExtra_retire_zero]
  exact ⟨written.retire k, frame.retire k, returns_retire k (by simp) (by simp) (by simp)⟩

/-! ## One bit -/

/-- The mask of bit `k` has that bit alone. -/
theorem getLsbD_mask (k : Fin 8) (j : Nat) : ((1 : Byte) <<< k.val).getLsbD j = decide (j = k.val) := by
  rw [show (1 : Byte) <<< k.val = BitVec.twoPow 8 k.val from rfl, BitVec.getLsbD_twoPow]
  simp [k.isLt, eq_comm]

theorem getLsbD_reset (v : Byte) (k : Fin 8) {j : Nat} (hj : j < 8) :
    (v &&& ~~~((1 : Byte) <<< k.val)).getLsbD j = if j = k.val then false else v.getLsbD j := by
  rw [BitVec.getLsbD_and, BitVec.getLsbD_not, getLsbD_mask]
  by_cases here : j = k.val <;> simp [hj, here]

theorem getLsbD_set (v : Byte) (k : Fin 8) (j : Nat) :
    (v ||| ((1 : Byte) <<< k.val)).getLsbD j = if j = k.val then true else v.getLsbD j := by
  rw [BitVec.getLsbD_or, getLsbD_mask]
  by_cases here : j = k.val <;> simp [here]

/-! ## The obligations -/

/-- Settles O43: each form is `rotateA`, which writes no Z but 0. -/
theorem accumulatorRotatesForceZ : Obligations.AccumulatorRotatesForceZ := by
  unfold Obligations.AccumulatorRotatesForceZ
  intro s i bytes a' co form
  simp only [List.mem_cons, List.not_mem_nil, or_false, Prod.mk.injEq] at form
  rcases form with form | form | form | form
  all_goals
    obtain ⟨rfl, rfl, rfl, rfl⟩ := form
    exact ⟨rfl, rotateA_rotates _ s⟩

/-- Settles O44: each form is `cbShift`. -/
theorem cbRotatesAndShifts : Obligations.CbRotatesAndShifts := by
  unfold Obligations.CbRotatesAndShifts
  intro s r i t3 v' co v form
  obtain ⟨t, rfl, rfl, result, rfl⟩ : ∃ t : ShiftOp, i = .ofShift t r ∧ t3 = t.index ∧
      v' = shiftNat t (s.r8 r).toNat s.cf ∧ co = (shift t (s.r8 r) s.cf).2 := by
    simp only [List.mem_cons, List.not_mem_nil, or_false, Prod.mk.injEq] at form
    rcases form with form | form | form | form | form | form | form | form
    exacts [⟨.rlc, form⟩, ⟨.rrc, form⟩, ⟨.rl, form⟩, ⟨.rr, form⟩, ⟨.sla, form⟩, ⟨.sra, form⟩, ⟨.swap, form⟩,
      ⟨.srl, form⟩]
  rw [exec_ofShift]
  exact ⟨encode_ofShift t r, cbShift_shifts t r s v' result⟩

/-- Settles O46: RES and SET are a read of the operand and a write of it with the one bit cleared or set. -/
theorem resSetChangeOneBit : Obligations.ResSetChangeOneBit := by
  unfold Obligations.ResSetChangeOneBit
  intro s k r i base on form
  simp only [List.mem_cons, List.not_mem_nil, or_false, Prod.mk.injEq] at form
  obtain ⟨rfl, rfl, rfl⟩ | ⟨rfl, rfl, rfl⟩ := form
  · obtain ⟨written, frame, returns⟩ := s.modify r (s.r8 r &&& ~~~((1 : Byte) <<< k.val)) (costR8 r 8 16)
    exact ⟨encode_res k r, _, _, by rw [← s.readR8_fst r]; rfl, written, fun _ => getLsbD_reset _ k, frame, returns⟩
  · obtain ⟨written, frame, returns⟩ := s.modify r (s.r8 r ||| ((1 : Byte) <<< k.val)) (costR8 r 8 16)
    exact ⟨encode_set k r, _, _, by rw [← s.readR8_fst r]; rfl, written, fun j _ => getLsbD_set _ k j, frame, returns⟩

end Sys2Proof.Machine
end

section
/-! PROOFS. Relative jumps, RETI, RST and the latches (44_control.md R193, R194, R198, R200; 45_latches.md R205 to
R209): O50, O54 and O56 to O58. -/

namespace Sys2Proof.Machine

/-! ## The shared operations -/

theorem jumpRel_jumps (n : Byte) (s : State) :
    ∃ t, jumpRel n s = .next t ∧ (t.pc.toNat : Int) = (s.pc.toNat + signed8 n) % 65536 ∧ Frame s t [.pc] [] ∧
      Returns s t 12 [] :=
  ⟨_, rfl, add_sext16_toNat s.pc n, (s.setPC_frame _).retire 12, returns_retire_nil 12 rfl rfl rfl⟩

/-- Taken it is JR n, and not taken a bare count. -/
theorem jumpRelIf_jumps (cc : Cond) (n : Byte) (s : State) :
    ∃ t, jumpRelIf cc n s = .next t ∧
      (t.pc.toNat : Int) = (if s.cond cc then (s.pc.toNat + signed8 n) % 65536 else s.pc.toNat) ∧ Frame s t [.pc] [] ∧
      Returns s t (if s.cond cc then 12 else 8) [] := by
  rw [jumpRelIf_eq]
  cases s.cond cc with
  | true => exact jumpRel_jumps n s
  | false =>
    obtain ⟨frame, returns⟩ := s.retire_only 8
    exact ⟨_, rfl, rfl, frame.mono (by decide) (by decide), returns⟩

/-- The two counts of NZ and NC, told by the flag that they are the complement of. -/
theorem jumpRelIf_count_not (b : Bool) : (if b then 8 else 12) = if !b then 12 else 8 := by cases b <;> rfl

theorem returnEnable_returns (s : State) :
    ∃ t, returnEnable s = .next t ∧ t.pc = s.replyAfter s.sp (s.sp + 1) ++ s.reply s.sp ∧ t.sp = s.sp + 2 ∧
      t.ime = true ∧ Frame s t [.pc, .sp, .ime] [] ∧
      Returns s t 16 [.read s.sp (s.reply s.sp), .read (s.sp + 1) (s.replyAfter s.sp (s.sp + 1))] :=
  ⟨_, rfl, s.popPC_pc, s.popPC_sp, rfl, (s.popPC_frame.trans (s.popPC.setIME_frame true)).retire 16,
    returns_retire 16 s.popPC_extra s.popPC_bus s.popPC_backend⟩

theorem writeIME_writes (v : Bool) (s : State) :
    ∃ t, writeIME v s = .next t ∧ t.ime = v ∧ Frame s t [.ime] [] ∧ Returns s t 4 [] :=
  ⟨_, rfl, rfl, (s.setIME_frame v).retire 4, returns_retire_nil 4 rfl rfl rfl⟩

/-- The eight targets of RST fit in a byte. -/
theorem rstTarget_toNat (k : Fin 8) : (rstTarget k.val).toNat = 8 * k.val := by
  have small := k.isLt
  rw [rstTarget, BitVec.toNat_ofNat]
  omega

/-! ## The obligations -/

/-- Settles O50: JR n is `jumpRel`, and each JR cc,n is `jumpRelIf` with its condition. -/
theorem relativeJumps : Obligations.RelativeJumps := by
  unfold Obligations.RelativeJumps
  intro s n i bytes holds count form
  simp only [List.mem_cons, List.not_mem_nil, or_false, Prod.mk.injEq] at form
  obtain ⟨rfl, rfl, rfl, rfl⟩ | ⟨rfl, rfl, rfl, rfl⟩ | ⟨rfl, rfl, rfl, rfl⟩ | ⟨rfl, rfl, rfl, rfl⟩ |
    ⟨rfl, rfl, rfl, rfl⟩ := form
  · exact ⟨rfl, jumpRel_jumps n s⟩
  · exact ⟨rfl, jumpRelIf_count_not s.zf ▸ jumpRelIf_jumps .nz n s⟩
  · exact ⟨rfl, jumpRelIf_jumps .z n s⟩
  · exact ⟨rfl, jumpRelIf_count_not s.cf ▸ jumpRelIf_jumps .nc n s⟩
  · exact ⟨rfl, jumpRelIf_jumps .c n s⟩

/-- Settles O54: RETI is `returnEnable`, RET and then a write of IME. -/
theorem retiPopsPCAndSetsIME : Obligations.RetiPopsPCAndSetsIME := by
  unfold Obligations.RetiPopsPCAndSetsIME
  exact fun s => ⟨rfl, returnEnable_returns s⟩

/-- Settles O56: RST is `call` with its target. -/
theorem rstCallsFixedAddress : Obligations.RstCallsFixedAddress := by
  unfold Obligations.RstCallsFixedAddress
  intro s k
  rw [exec_ofRst]
  obtain ⟨t, next, pc, rest⟩ := call_calls (rstTarget k.val) 16 s
  exact ⟨encode_ofRst k, t, next, by rw [pc, rstTarget_toNat], rest⟩

/-- Settles O57: each form is `noEffect`, a bare count. -/
theorem noEffectInstructions : Obligations.NoEffectInstructions := by
  unfold Obligations.NoEffectInstructions
  intro s x i bytes form
  simp only [List.mem_cons, List.not_mem_nil, or_false, Prod.mk.injEq] at form
  rcases form with form | form | form | form
  all_goals
    obtain ⟨rfl, rfl⟩ := form
    exact ⟨rfl, _, rfl, s.retire_only 4⟩

/-- Settles O58: both are `writeIME`. -/
theorem diEiWriteIMEOnly : Obligations.DiEiWriteIMEOnly := by
  unfold Obligations.DiEiWriteIMEOnly
  intro s i bytes v form
  simp only [List.mem_cons, List.not_mem_nil, or_false, Prod.mk.injEq] at form
  obtain ⟨rfl, rfl, rfl⟩ | ⟨rfl, rfl, rfl⟩ := form
  · exact ⟨rfl, writeIME_writes false s⟩
  · exact ⟨rfl, writeIME_writes true s⟩

end Sys2Proof.Machine
end
